-- ==== Sys2Proof/Word.lean ====
section
/-! DEFINITION. The word types of the block. Its memories hold bytes (20_memory.md R50, R62); the stream is a sequence of
bits (R52). Every length, count, distance and position is an unbounded natural number (00_scope.md R11). -/

namespace Sys2Proof

/-- One byte of a memory (20_memory.md R50). -/
abbrev Byte := BitVec 8

/-- Stream bits, the first bit read at the head (20_memory.md R52, 30_encoding.md R70). -/
abbrev Bits := List Bool

/-- A prefix code, as the vector of its symbols' code lengths: entry `sym` is the length of `sym`, 0 for an unused symbol
(00_scope.md R18; 10_state.md R42; 41_prefix_codes.md R118, R125). -/
abbrev PrefixCode := List Nat

end Sys2Proof
end

