-- ==== Sys2Proof/Config.lean ====
section
/-! DEFINITION. What an implementation fixes: the parameters of 00_scope.md R10, the kinds of error and of allocation site
they range over, and the two values the spec leaves free (the numeric error codes, the contents of the built-in
dictionary), which have no body here. -/

namespace Sys2Proof

/-- The error kinds: the complete list of 60_exceptions.md R214. -/
inductive ErrorKind
  | formatExuberantNibble
  | formatReserved
  | formatExuberantMetaNibble
  | formatSimpleHuffmanAlphabet
  | formatSimpleHuffmanSame
  | formatClSpace
  | formatHuffmanSpace
  | formatContextMapRepeat
  | formatBlockLength1
  | formatBlockLength2
  | formatTransform
  | formatDictionary
  | formatWindowBits
  | formatPadding1
  | formatPadding2
  | formatDistance
  | invalidArguments
  | dictionaryNotSet
  | allocContextModes
  | allocTreeGroups
  | allocContextMap
  | allocRingBuffer1
  | allocRingBuffer2
  | allocBlockTypeTrees
  | unreachable
  deriving DecidableEq, Repr

/-- The sites whose allocation can be made to fail (42_metablock.md R157, R158; 60_exceptions.md R216). -/
inductive AllocSite
  | blockTypeTrees | contextModes | contextMap | treeGroups | ringBuffer1 | ringBuffer2
  deriving DecidableEq, Repr

/-- What becomes of bytes after the last meta-block (40_bitreader.md R102). -/
inductive TrailingPolicy
  | ignore | reject
  deriving DecidableEq, Repr

/-- The parameters of 00_scope.md R10 that are plain data. `allocFail` lists the sites at which `ALLOC_FAIL` holds.
They are not state: no operation writes them (10_state.md R40). -/
structure Params where
  largeWindow    : Bool
  builtinPresent : Bool
  emptyInputOk   : Bool
  trailing       : TrailingPolicy
  allocFail      : List AllocSite
  deriving DecidableEq, Repr

/-- The defaults of 00_scope.md R10. -/
def Params.default : Params :=
  { largeWindow := false, builtinPresent := true, emptyInputOk := false, trailing := .ignore, allocFail := [] }

namespace Config

/-- The size of a dictionary in bytes, built-in or supplied by the caller (44_dictionary_transforms.md R192, R196). -/
def dictSize : Nat := 122784

/-- `ERROR_CODE` (60_exceptions.md R218): a stable code for each kind, which the spec leaves open. No value of it can be
proved (log entry 2). -/
opaque errorCode : ErrorKind → Int

/-- Byte `i` of `BUILTIN_DICT` (00_scope.md R10; 91_not_in_source.md N5): its contents are not transcribed in the spec. No
value of it can be proved (log entry 3). -/
opaque builtinDict : Nat → Byte

end Config

end Sys2Proof
end

