-- ==== Sys2Proof/Syntax.lean ====
section
/-! DEFINITION. The syntax: the decoder states that select an operation, and ONE instruction type with one constructor for
each row of spec/opcode_table.json (30_encoding.md R94). The first ten constructors are the operations, each one atomic step
of the block (00_scope.md R2, R14; 92_eei_decisions.md D1). The others are the syntax elements and code values that the
operations read at the bit cursor, and the entries of the constant tables: an operand is written out where the row
stands for a range of values. -/

namespace Sys2Proof

/-- A category of block types: literal, insert-and-copy ("command"), distance (00_scope.md R17). -/
inductive Category
  | L | I | D
  deriving DecidableEq, Repr

/-- The decoder states (10_state.md R20). -/
inductive DecState
  | streamHeader | metaBlockHeader | metadata | uncompressedBody | compressedSetup | commandLoop | done | error
  deriving DecidableEq, Repr

/-- The phases of the state CommandLoop (10_state.md R22). -/
inductive CmdPhase
  | cmdBegin | insert | distance | copy
  deriving DecidableEq, Repr

/-- The two kinds of padding, which raise different errors (40_bitreader.md R98, R102). -/
inductive PadKind
  | interior | final
  deriving DecidableEq, Repr

/-- A row of spec/opcode_table.json. A symbol row's operand is the symbol's value; a category operand says whose tracker
the symbol belongs to; a field row's operand is the value of its free bits. -/
inductive Instr where
  -- The ten operations (42_metablock.md to 44_dictionary_transforms.md).
  | streamHeader | mhdr | metadata | uncompressed | setup | cmd | lit | dist | copy | dict
  -- WBITS field (30_encoding.md R73).
  | wbits16 | wbits18 | wbits19 | wbits20 | wbits21 | wbits22 | wbits23 | wbits24 | wbits17 | wbitsLarge | wbits10
  | wbits11 | wbits12 | wbits13 | wbits14 | wbits15
  -- Meta-block header fields (42_metablock.md R132 to R135).
  | mhdrLast1Empty1 | mhdrLast1Empty0 | mhdrLast0 | mnibbles0 | mnibbles1 | mnibbles2 | mnibbles3
  | mlenNibble (x : Nat) | isuncompressed0 | isuncompressed1
  -- Metadata header fields (42_metablock.md R137, R138) and padding (40_bitreader.md R98): kind, number of bits, value.
  | metadataReserved0 | metadataReserved1 | mskipbytes0 | mskipbytes1 | mskipbytes2 | mskipbytes3
  | mskiplenByte (b : Nat) | pad (k : PadKind) (n : Nat) (v : Nat)
  -- Variable-length count (30_encoding.md R75).
  | varlen0 | varlen1 | varlenN1 (x : Nat) | varlenN2 (x : Nat) | varlenN3 (x : Nat) | varlenN4 (x : Nat)
  | varlenN5 (x : Nat) | varlenN6 (x : Nat) | varlenN7 (x : Nat)
  -- Distance parameters and context modes (42_metablock.md R145, R146).
  | npostfix0 | npostfix1 | npostfix2 | npostfix3 | ndirect (x : Nat) | cmodeLsb6 | cmodeMsb6 | cmodeUtf8
  | cmodeSigned
  -- Context-map header and inverse move-to-front flag (42_metablock.md R148, R152).
  | cmapRlemax0 | cmapRlemax (x : Nat) | cmapImtf0 | cmapImtf1
  -- Prefix-code header fields (41_prefix_codes.md R104 to R107; 30_encoding.md R76).
  | hskip0 | hskip1 | hskip2 | hskip3 | nsym1 | nsym2 | nsym3 | nsym4 | treeselect0 | treeselect1 | clcl0 | clcl3
  | clcl4 | clcl2 | clcl1 | clcl5
  -- Code-length symbols (30_encoding.md R77).
  | clsym0 | clsym1 | clsym2 | clsym3 | clsym4 | clsym5 | clsym6 | clsym7 | clsym8 | clsym9 | clsym10 | clsym11
  | clsym12 | clsym13 | clsym14 | clsym15 | clsym16 | clsym17
  -- Block-type and block-count symbols of a category (30_encoding.md R79, R80).
  | btype0 (c : Category) | btype1 (c : Category) | btypeT (c : Category) (t : Nat) | blen0 (c : Category)
  | blen1 (c : Category) | blen2 (c : Category) | blen3 (c : Category) | blen4 (c : Category)
  | blen5 (c : Category) | blen6 (c : Category) | blen7 (c : Category) | blen8 (c : Category)
  | blen9 (c : Category) | blen10 (c : Category) | blen11 (c : Category) | blen12 (c : Category)
  | blen13 (c : Category) | blen14 (c : Category) | blen15 (c : Category) | blen16 (c : Category)
  | blen17 (c : Category) | blen18 (c : Category) | blen19 (c : Category) | blen20 (c : Category)
  | blen21 (c : Category) | blen22 (c : Category) | blen23 (c : Category) | blen24 (c : Category)
  | blen25 (c : Category)
  -- Context-map symbols (30_encoding.md R92).
  | cmapsym0 | cmapsymRun (v : Nat) | cmapsymValue (v : Nat)
  -- Literal symbol (43_command_loop.md R172).
  | litB (b : Byte)
  -- Command symbols, by cell (30_encoding.md R81).
  | cmdCell0 (sym : Nat) | cmdCell1 (sym : Nat) | cmdCell2 (sym : Nat) | cmdCell3 (sym : Nat)
  | cmdCell4 (sym : Nat) | cmdCell5 (sym : Nat) | cmdCell6 (sym : Nat) | cmdCell7 (sym : Nat)
  | cmdCell8 (sym : Nat) | cmdCell9 (sym : Nat) | cmdCell10 (sym : Nat)
  -- Insert and copy length codes (30_encoding.md R82, R83).
  | inscode0 | inscode1 | inscode2 | inscode3 | inscode4 | inscode5 | inscode6 | inscode7 | inscode8 | inscode9
  | inscode10 | inscode11 | inscode12 | inscode13 | inscode14 | inscode15 | inscode16 | inscode17 | inscode18
  | inscode19 | inscode20 | inscode21 | inscode22 | inscode23 | copycode0 | copycode1 | copycode2 | copycode3
  | copycode4 | copycode5 | copycode6 | copycode7 | copycode8 | copycode9 | copycode10 | copycode11 | copycode12
  | copycode13 | copycode14 | copycode15 | copycode16 | copycode17 | copycode18 | copycode19 | copycode20
  | copycode21 | copycode22 | copycode23
  -- Distance codes (30_encoding.md R84, R85).
  | dist0 | dist1 | dist2 | dist3 | dist4 | dist5 | dist6 | dist7 | dist8 | dist9 | dist10 | dist11 | dist12
  | dist13 | dist14 | dist15 | distDirect (code : Nat) | distLong (code : Nat)
  -- Transform ops (44_dictionary_transforms.md R198).
  | topIdentity | topOmitLast1 | topOmitLast2 | topOmitLast3 | topOmitLast4 | topOmitLast5 | topOmitLast6
  | topOmitLast7 | topOmitLast8 | topOmitLast9 | topUppercaseFirst | topUppercaseAll | topOmitFirst1
  | topOmitFirst2 | topOmitFirst3 | topOmitFirst4 | topOmitFirst5 | topOmitFirst6 | topOmitFirst7 | topOmitFirst8
  | topOmitFirst9 | topShiftFirst (param : BitVec 16) | topShiftAll (param : BitVec 16)
  -- Transforms (44_dictionary_transforms.md R206, R194).
  | transformReserved (tid : Nat) | transform0 | transform1 | transform2 | transform3 | transform4 | transform5
  | transform6 | transform7 | transform8 | transform9 | transform10 | transform11 | transform12 | transform13
  | transform14 | transform15 | transform16 | transform17 | transform18 | transform19 | transform20 | transform21
  | transform22 | transform23 | transform24 | transform25 | transform26 | transform27 | transform28 | transform29
  | transform30 | transform31 | transform32 | transform33 | transform34 | transform35 | transform36 | transform37
  | transform38 | transform39 | transform40 | transform41 | transform42 | transform43 | transform44 | transform45
  | transform46 | transform47 | transform48 | transform49 | transform50 | transform51 | transform52 | transform53
  | transform54 | transform55 | transform56 | transform57 | transform58 | transform59 | transform60 | transform61
  | transform62 | transform63 | transform64 | transform65 | transform66 | transform67 | transform68 | transform69
  | transform70 | transform71 | transform72 | transform73 | transform74 | transform75 | transform76 | transform77
  | transform78 | transform79 | transform80 | transform81 | transform82 | transform83 | transform84 | transform85
  | transform86 | transform87 | transform88 | transform89 | transform90 | transform91 | transform92 | transform93
  | transform94 | transform95 | transform96 | transform97 | transform98 | transform99 | transform100
  | transform101 | transform102 | transform103 | transform104 | transform105 | transform106 | transform107
  | transform108 | transform109 | transform110 | transform111 | transform112 | transform113 | transform114
  | transform115 | transform116 | transform117 | transform118 | transform119 | transform120
  -- Dictionary buckets, by word length (44_dictionary_transforms.md R192).
  | dictbucket4 | dictbucket5 | dictbucket6 | dictbucket7 | dictbucket8 | dictbucket9 | dictbucket10
  | dictbucket11 | dictbucket12 | dictbucket13 | dictbucket14 | dictbucket15 | dictbucket16 | dictbucket17
  | dictbucket18 | dictbucket19 | dictbucket20 | dictbucket21 | dictbucket22 | dictbucket23 | dictbucket24
  deriving DecidableEq, Repr

end Sys2Proof
end

