-- ==== Sys2Proof/WellFormed.lean ====
section
/-! DEFINITION. Which instruction terms are well formed: every operand lies in the range that its row of
spec/opcode_table.json and the rule the row names give it, whatever the stream's parameters are. -/

namespace Sys2Proof

/-- The operands of `i` lie in their row's range. -/
def Instr.wellFormed (i : Instr) : Bool :=
  match i with
  | .streamHeader | .mhdr | .metadata | .uncompressed | .setup | .cmd | .lit | .dist | .copy | .dict | .wbits16
  | .wbits18 | .wbits19 | .wbits20 | .wbits21 | .wbits22 | .wbits23 | .wbits24 | .wbits17 | .wbitsLarge
  | .wbits10 | .wbits11 | .wbits12 | .wbits13 | .wbits14 | .wbits15 | .mhdrLast1Empty1 | .mhdrLast1Empty0
  | .mhdrLast0 | .mnibbles0 | .mnibbles1 | .mnibbles2 | .mnibbles3 => true
  | .mlenNibble x => decide (x < 16)
  | .isuncompressed0 | .isuncompressed1 | .metadataReserved0 | .metadataReserved1 | .mskipbytes0 | .mskipbytes1
  | .mskipbytes2 | .mskipbytes3 => true
  | .mskiplenByte b => decide (b < 256)
  | .pad _ n v => decide (n < 8) && decide (v < 2 ^ n)
  | .varlen0 | .varlen1 => true
  | .varlenN1 x => decide (x < 2)
  | .varlenN2 x => decide (x < 4)
  | .varlenN3 x => decide (x < 8)
  | .varlenN4 x => decide (x < 16)
  | .varlenN5 x => decide (x < 32)
  | .varlenN6 x => decide (x < 64)
  | .varlenN7 x => decide (x < 128)
  | .npostfix0 | .npostfix1 | .npostfix2 | .npostfix3 => true
  | .ndirect x => decide (x < 16)
  | .cmodeLsb6 | .cmodeMsb6 | .cmodeUtf8 | .cmodeSigned | .cmapRlemax0 => true
  | .cmapRlemax x => decide (x < 16)
  | .cmapImtf0 | .cmapImtf1 | .hskip0 | .hskip1 | .hskip2 | .hskip3 | .nsym1 | .nsym2 | .nsym3 | .nsym4
  | .treeselect0 | .treeselect1 | .clcl0 | .clcl3 | .clcl4 | .clcl2 | .clcl1 | .clcl5 | .clsym0 | .clsym1
  | .clsym2 | .clsym3 | .clsym4 | .clsym5 | .clsym6 | .clsym7 | .clsym8 | .clsym9 | .clsym10 | .clsym11
  | .clsym12 | .clsym13 | .clsym14 | .clsym15 | .clsym16 | .clsym17 | .btype0 _ | .btype1 _ => true
  | .btypeT _ t => decide (2 ≤ t) && decide (t ≤ 257)
  | .blen0 _ | .blen1 _ | .blen2 _ | .blen3 _ | .blen4 _ | .blen5 _ | .blen6 _ | .blen7 _ | .blen8 _ | .blen9 _
  | .blen10 _ | .blen11 _ | .blen12 _ | .blen13 _ | .blen14 _ | .blen15 _ | .blen16 _ | .blen17 _ | .blen18 _
  | .blen19 _ | .blen20 _ | .blen21 _ | .blen22 _ | .blen23 _ | .blen24 _ | .blen25 _ | .cmapsym0 => true
  | .cmapsymRun v => decide (1 ≤ v) && decide (v ≤ 16)
  | .cmapsymValue v => decide (1 ≤ v) && decide (v ≤ 271)
  | .litB _ => true
  | .cmdCell0 sym => decide (sym ≤ 63)
  | .cmdCell1 sym => decide (64 ≤ sym) && decide (sym ≤ 127)
  | .cmdCell2 sym => decide (128 ≤ sym) && decide (sym ≤ 191)
  | .cmdCell3 sym => decide (192 ≤ sym) && decide (sym ≤ 255)
  | .cmdCell4 sym => decide (256 ≤ sym) && decide (sym ≤ 319)
  | .cmdCell5 sym => decide (320 ≤ sym) && decide (sym ≤ 383)
  | .cmdCell6 sym => decide (384 ≤ sym) && decide (sym ≤ 447)
  | .cmdCell7 sym => decide (448 ≤ sym) && decide (sym ≤ 511)
  | .cmdCell8 sym => decide (512 ≤ sym) && decide (sym ≤ 575)
  | .cmdCell9 sym => decide (576 ≤ sym) && decide (sym ≤ 639)
  | .cmdCell10 sym => decide (640 ≤ sym) && decide (sym ≤ 703)
  | .inscode0 | .inscode1 | .inscode2 | .inscode3 | .inscode4 | .inscode5 | .inscode6 | .inscode7 | .inscode8
  | .inscode9 | .inscode10 | .inscode11 | .inscode12 | .inscode13 | .inscode14 | .inscode15 | .inscode16
  | .inscode17 | .inscode18 | .inscode19 | .inscode20 | .inscode21 | .inscode22 | .inscode23 | .copycode0
  | .copycode1 | .copycode2 | .copycode3 | .copycode4 | .copycode5 | .copycode6 | .copycode7 | .copycode8
  | .copycode9 | .copycode10 | .copycode11 | .copycode12 | .copycode13 | .copycode14 | .copycode15 | .copycode16
  | .copycode17 | .copycode18 | .copycode19 | .copycode20 | .copycode21 | .copycode22 | .copycode23 | .dist0
  | .dist1 | .dist2 | .dist3 | .dist4 | .dist5 | .dist6 | .dist7 | .dist8 | .dist9 | .dist10 | .dist11 | .dist12
  | .dist13 | .dist14 | .dist15 => true
  | .distDirect code => decide (16 ≤ code) && decide (code ≤ 135)
  | .distLong code => decide (16 ≤ code) && decide (code ≤ 519)
  | .topIdentity | .topOmitLast1 | .topOmitLast2 | .topOmitLast3 | .topOmitLast4 | .topOmitLast5 | .topOmitLast6
  | .topOmitLast7 | .topOmitLast8 | .topOmitLast9 | .topUppercaseFirst | .topUppercaseAll | .topOmitFirst1
  | .topOmitFirst2 | .topOmitFirst3 | .topOmitFirst4 | .topOmitFirst5 | .topOmitFirst6 | .topOmitFirst7
  | .topOmitFirst8 | .topOmitFirst9 | .topShiftFirst _ | .topShiftAll _ => true
  | .transformReserved tid => decide (121 ≤ tid)
  | .transform0 | .transform1 | .transform2 | .transform3 | .transform4 | .transform5 | .transform6
  | .transform7 | .transform8 | .transform9 | .transform10 | .transform11 | .transform12 | .transform13
  | .transform14 | .transform15 | .transform16 | .transform17 | .transform18 | .transform19 | .transform20
  | .transform21 | .transform22 | .transform23 | .transform24 | .transform25 | .transform26 | .transform27
  | .transform28 | .transform29 | .transform30 | .transform31 | .transform32 | .transform33 | .transform34
  | .transform35 | .transform36 | .transform37 | .transform38 | .transform39 | .transform40 | .transform41
  | .transform42 | .transform43 | .transform44 | .transform45 | .transform46 | .transform47 | .transform48
  | .transform49 | .transform50 | .transform51 | .transform52 | .transform53 | .transform54 | .transform55
  | .transform56 | .transform57 | .transform58 | .transform59 | .transform60 | .transform61 | .transform62
  | .transform63 | .transform64 | .transform65 | .transform66 | .transform67 | .transform68 | .transform69
  | .transform70 | .transform71 | .transform72 | .transform73 | .transform74 | .transform75 | .transform76
  | .transform77 | .transform78 | .transform79 | .transform80 | .transform81 | .transform82 | .transform83
  | .transform84 | .transform85 | .transform86 | .transform87 | .transform88 | .transform89 | .transform90
  | .transform91 | .transform92 | .transform93 | .transform94 | .transform95 | .transform96 | .transform97
  | .transform98 | .transform99 | .transform100 | .transform101 | .transform102 | .transform103 | .transform104
  | .transform105 | .transform106 | .transform107 | .transform108 | .transform109 | .transform110
  | .transform111 | .transform112 | .transform113 | .transform114 | .transform115 | .transform116
  | .transform117 | .transform118 | .transform119 | .transform120 | .dictbucket4 | .dictbucket5 | .dictbucket6
  | .dictbucket7 | .dictbucket8 | .dictbucket9 | .dictbucket10 | .dictbucket11 | .dictbucket12 | .dictbucket13
  | .dictbucket14 | .dictbucket15 | .dictbucket16 | .dictbucket17 | .dictbucket18 | .dictbucket19
  | .dictbucket20 | .dictbucket21 | .dictbucket22 | .dictbucket23 | .dictbucket24 => true

end Sys2Proof
end

