-- ==== Sys2Proof/Decode.lean ====
section
/-! DEFINITION. Decoding. The stream has no instruction words of its own: what the next bits mean depends on where in the
grammar of 30_encoding.md R72 they stand, so the decoder takes that place (`Ctx`) beside the bits. It is total on any bits
and rejects by name. The encoder after it is written from the same tables. -/

namespace Sys2Proof

/-! ### Fields as numbers -/

/-- The `n` low bits of `v`, bit 0 first (30_encoding.md R70). -/
def bitsOf : Nat → Nat → Bits
  | 0, _ => []
  | n + 1, v => (v % 2 == 1) :: bitsOf n (v / 2)

/-- The value of a field whose first bit read is bit 0 (30_encoding.md R70). -/
def valueOf : Bits → Nat
  | [] => 0
  | b :: bs => b.toNat + 2 * valueOf bs

/-- A bit pattern as the spec writes it, the first bit read on the left (30_encoding.md R70). -/
def pattern (l : List Nat) : Bits := l.map (· == 1)

/-- `bitlength(n)`: the number of binary digits of `n`, so that `bitlength (A - 1)` is the least `W` with `2 ^ W ≥ A`
for `A ≥ 1` (41_prefix_codes.md R105). -/
def bitlength (n : Nat) : Nat := go n n
where
  go : Nat → Nat → Nat
    | 0, _ => 0
    | fuel + 1, m => if m = 0 then 0 else 1 + go fuel (m / 2)

/-! ### Canonical prefix codes (41_prefix_codes.md R118 to R124) -/

/-- The positions of `l` in a code-length vector, from index `i` on, in increasing order. -/
def positionsOf (l : Nat) : List Nat → Nat → List Nat
  | [], _ => []
  | x :: xs, i => if x = l then i :: positionsOf l xs (i + 1) else positionsOf l xs (i + 1)

/-- The positions of the non-zero entries of a code-length vector, from index `i` on. -/
def usedSymbols : List Nat → Nat → List Nat
  | [], _ => []
  | x :: xs, i => if x = 0 then usedSymbols xs (i + 1) else i :: usedSymbols xs (i + 1)

/-- The symbol of a degenerate code, one with exactly one non-zero entry (41_prefix_codes.md R124). -/
def oneSymbol (T : PrefixCode) : Option Nat :=
  match usedSymbols T 0 with
  | [s] => some s
  | _ => none

/-- `next[l]` before any symbol is assigned: the first codeword of length `l` (41_prefix_codes.md R120). -/
def firstCode (T : PrefixCode) : Nat → Nat
  | 0 => 0
  | 1 => 0
  | l + 2 => (firstCode T (l + 1) + T.count (l + 1)) * 2

/-- The symbol whose codeword is the `l` bits of value `c`: codewords of one length go to the symbols of that length in
increasing order (41_prefix_codes.md R120, R123). -/
def symbolAt (T : PrefixCode) (l c : Nat) : Option Nat :=
  if firstCode T l ≤ c then (positionsOf l T 0)[c - firstCode T l]? else none

/-- The length and the value of the codeword of `sym`; length 0 for the symbol of a degenerate code (41_prefix_codes.md
R120, R124). -/
def codeword (T : PrefixCode) (sym : Nat) : Option (Nat × Nat) :=
  match oneSymbol T with
  | some s => if sym = s then some (0, 0) else none
  | none =>
    match T[sym]? with
    | none => none
    | some l => if l = 0 then none else some (l, firstCode T l + (T.take sym).count l)

/-- A codeword's bits in stream order: the most significant bit comes first (30_encoding.md R71). -/
def codewordBits (T : PrefixCode) (sym : Nat) : Option Bits :=
  (codeword T sym).map fun p => (bitsOf p.1 p.2).reverse

/-- Why no instruction is decoded. -/
inductive DecodeError
  /-- The input ends inside the element; `used` bits of it were read before the read that failed (40_bitreader.md R97). -/
  | endOfInput (used : Nat)
  /-- No operation is enabled: the decoder is in state Done or Error (10_state.md R20). -/
  | noOperation
  /-- No symbol has the 15 bits as its codeword; a code that passed its space check has none such (41_prefix_codes.md R123). -/
  | noCodeword
  /-- The value is no symbol of the alphabet, or no entry of the table. -/
  | noSuchEntry (v : Nat)
  deriving DecidableEq, Repr

/-- The loop of 41_prefix_codes.md R123: `l` bits of value `c` are read, `fuel` more may be. -/
def walkCode (T : PrefixCode) : Nat → Nat → Nat → Bits → Except DecodeError (Nat × Nat)
  | 0, _, _, _ => .error .noCodeword
  | _ + 1, l, _, [] => .error (.endOfInput l)
  | fuel + 1, l, c, b :: bs =>
    match symbolAt T (l + 1) (2 * c + b.toNat) with
    | some s => .ok (s, l + 1)
    | none => walkCode T fuel (l + 1) (2 * c + b.toNat) bs

/-- `decodeSymbol(T)`: the symbol and the number of bits it takes (41_prefix_codes.md R123, R124). -/
def decodeSymbol (T : PrefixCode) (bits : Bits) : Except DecodeError (Nat × Nat) :=
  match oneSymbol T with
  | some s => .ok (s, 0)
  | none => walkCode T 15 0 0 bits

/-! ### Where an element stands -/

/-- The fixed-width and fixed-code fields of 30_encoding.md R72 to R76. -/
inductive Field
  /-- WBITS (R73). -/
  | wbits
  /-- ISLAST, and ISLASTEMPTY when ISLAST is 1 (42_metablock.md R132). -/
  | mhdr
  /-- MNIBBLES (R74). -/
  | mnibbles
  /-- One nibble of MLEN - 1 (42_metablock.md R134). -/
  | mlen
  /-- ISUNCOMPRESSED (42_metablock.md R135). -/
  | isUncompressed
  /-- The reserved bit of a metadata header (42_metablock.md R137). -/
  | reserved
  /-- MSKIPBYTES (42_metablock.md R137). -/
  | mskipbytes
  /-- One byte of MSKIPLEN - 1 (42_metablock.md R138). -/
  | mskiplen
  /-- The variable-length count (R75). -/
  | varlen
  /-- NPOSTFIX (42_metablock.md R145). -/
  | npostfix
  /-- NDIRECT >> NPOSTFIX (42_metablock.md R145). -/
  | ndirect
  /-- A context mode (R86). -/
  | cmode
  /-- RLEMAX with its flag (42_metablock.md R148). -/
  | rlemax
  /-- The inverse move-to-front flag (42_metablock.md R152). -/
  | imtf
  /-- HSKIP (41_prefix_codes.md R104). -/
  | hskip
  /-- NSYM - 1 (41_prefix_codes.md R105). -/
  | nsym
  /-- The tree-select bit (41_prefix_codes.md R107). -/
  | treeSelect
  /-- A code-length-code length (R76). -/
  | clcl
  deriving DecidableEq, Repr

/-- The alphabets of prefix-code symbols (00_scope.md R9), with what decides how their symbols are read: the category's
tracker, RLEMAX, NDIRECT. -/
inductive Alphabet
  | codeLength
  | blockType (c : Category)
  | blockCount (c : Category)
  | contextMap (rlemax : Nat)
  | literal
  | command
  | distance (ndirect : Nat)
  deriving DecidableEq, Repr

/-- The constant tables whose entries the opcode table lists. A transform op carries its 16-bit parameter
(44_dictionary_transforms.md R197). -/
inductive Table
  | insertLength
  | copyLength
  | transformOp (param : BitVec 16)
  | transform
  | dictBucket
  deriving DecidableEq, Repr

/-- A place in the grammar: which operation is enabled, or which element an operation reads next. `beyond` says that the
resolved distance exceeds the maximum backward distance (43_command_loop.md R178). -/
inductive Ctx
  | operation (state : DecState) (phase : CmdPhase) (beyond : Bool)
  | field (f : Field)
  | padding (k : PadKind) (n : Nat)
  | symbol (a : Alphabet) (code : PrefixCode)
  | entry (t : Table) (v : Nat)
  deriving DecidableEq, Repr

/-! ### The opcode table, from a place to its rows -/

/-- The operation that a decoder state enables (10_state.md R20 to R22; 43_command_loop.md R161, R178). -/
def operationRow : DecState → CmdPhase → Bool → Option Instr
  | .streamHeader, _, _ => some .streamHeader
  | .metaBlockHeader, _, _ => some .mhdr
  | .metadata, _, _ => some .metadata
  | .uncompressedBody, _, _ => some .uncompressed
  | .compressedSetup, _, _ => some .setup
  | .commandLoop, .cmdBegin, _ => some .cmd
  | .commandLoop, .insert, _ => some .lit
  | .commandLoop, .distance, _ => some .dist
  | .commandLoop, .copy, false => some .copy
  | .commandLoop, .copy, true => some .dict
  | .done, _, _ => none
  | .error, _, _ => none

/-- A field row: its fixed bits, and the width of the operand that follows them. -/
structure FieldRow where
  fixed : Bits
  width : Nat
  instr : Nat → Instr

/-- A row with the given fixed bits and no operand. -/
def bare (l : List Nat) (i : Instr) : FieldRow := { fixed := pattern l, width := 0, instr := fun _ => i }

/-- A row with the given fixed bits and an operand of `w` bits. -/
def wide (l : List Nat) (w : Nat) (f : Nat → Instr) : FieldRow := { fixed := pattern l, width := w, instr := f }

/-- The encodings of a field's values, from 30_encoding.md R73 to R76, R86, R92 and 42_metablock.md. -/
def fieldRows : Field → List FieldRow
  | .wbits =>
    [bare [0] .wbits16, bare [1, 1, 0, 0] .wbits18, bare [1, 0, 1, 0] .wbits19, bare [1, 1, 1, 0] .wbits20,
     bare [1, 0, 0, 1] .wbits21, bare [1, 1, 0, 1] .wbits22, bare [1, 0, 1, 1] .wbits23,
     bare [1, 1, 1, 1] .wbits24, bare [1, 0, 0, 0, 0, 0, 0] .wbits17, bare [1, 0, 0, 0, 1, 0, 0] .wbitsLarge,
     bare [1, 0, 0, 0, 0, 1, 0] .wbits10, bare [1, 0, 0, 0, 1, 1, 0] .wbits11, bare [1, 0, 0, 0, 0, 0, 1] .wbits12,
     bare [1, 0, 0, 0, 1, 0, 1] .wbits13, bare [1, 0, 0, 0, 0, 1, 1] .wbits14, bare [1, 0, 0, 0, 1, 1, 1] .wbits15]
  | .mhdr =>
    [bare [1, 1] .mhdrLast1Empty1, bare [1, 0] .mhdrLast1Empty0, bare [0] .mhdrLast0]
  | .mnibbles =>
    [bare [0, 0] .mnibbles0, bare [1, 0] .mnibbles1, bare [0, 1] .mnibbles2, bare [1, 1] .mnibbles3]
  | .mlen =>
    [wide [] 4 .mlenNibble]
  | .isUncompressed =>
    [bare [0] .isuncompressed0, bare [1] .isuncompressed1]
  | .reserved =>
    [bare [0] .metadataReserved0, bare [1] .metadataReserved1]
  | .mskipbytes =>
    [bare [0, 0] .mskipbytes0, bare [1, 0] .mskipbytes1, bare [0, 1] .mskipbytes2, bare [1, 1] .mskipbytes3]
  | .mskiplen =>
    [wide [] 8 .mskiplenByte]
  | .varlen =>
    [bare [0] .varlen0, bare [1, 0, 0, 0] .varlen1, wide [1, 1, 0, 0] 1 .varlenN1, wide [1, 0, 1, 0] 2 .varlenN2,
     wide [1, 1, 1, 0] 3 .varlenN3, wide [1, 0, 0, 1] 4 .varlenN4, wide [1, 1, 0, 1] 5 .varlenN5,
     wide [1, 0, 1, 1] 6 .varlenN6, wide [1, 1, 1, 1] 7 .varlenN7]
  | .npostfix =>
    [bare [0, 0] .npostfix0, bare [1, 0] .npostfix1, bare [0, 1] .npostfix2, bare [1, 1] .npostfix3]
  | .ndirect =>
    [wide [] 4 .ndirect]
  | .cmode =>
    [bare [0, 0] .cmodeLsb6, bare [1, 0] .cmodeMsb6, bare [0, 1] .cmodeUtf8, bare [1, 1] .cmodeSigned]
  | .rlemax =>
    [bare [0] .cmapRlemax0, wide [1] 4 .cmapRlemax]
  | .imtf =>
    [bare [0] .cmapImtf0, bare [1] .cmapImtf1]
  | .hskip =>
    [bare [0, 0] .hskip0, bare [1, 0] .hskip1, bare [0, 1] .hskip2, bare [1, 1] .hskip3]
  | .nsym =>
    [bare [0, 0] .nsym1, bare [1, 0] .nsym2, bare [0, 1] .nsym3, bare [1, 1] .nsym4]
  | .treeSelect =>
    [bare [0] .treeselect0, bare [1] .treeselect1]
  | .clcl =>
    [bare [0, 0] .clcl0, bare [0, 1] .clcl3, bare [1, 0] .clcl4, bare [1, 1, 0] .clcl2, bare [1, 1, 1, 0] .clcl1,
     bare [1, 1, 1, 1] .clcl5]

/-- How many bits of a field are read before the read that fails, when only `a` bits are left: a field is read in parts,
WBITS and the variable-length count as 1 and 3 bits and a rest, ISLASTEMPTY after ISLAST, RLEMAX after its flag, every other
field in one part (40_bitreader.md R97; 42_metablock.md R129, R132, R148; 30_encoding.md R75). -/
def Field.readBefore (f : Field) (a : Nat) : Nat :=
  match f with
  | .wbits | .varlen => if a < 1 then 0 else if a < 4 then 1 else 4
  | .mhdr | .rlemax => if a < 1 then 0 else 1
  | .mnibbles | .mlen | .isUncompressed | .reserved | .mskipbytes | .mskiplen | .npostfix | .ndirect | .cmode | .imtf
  | .hskip | .nsym | .treeSelect | .clcl => 0

/-- Reads a field: the row whose fixed bits stand first, and its operand. -/
def decodeField (f : Field) (bits : Bits) : Except DecodeError (Instr × Nat) :=
  match (fieldRows f).find? (fun r => r.fixed.isPrefixOf bits) with
  | none => .error (.endOfInput (f.readBefore bits.length))
  | some r =>
    if bits.length < r.fixed.length + r.width then .error (.endOfInput (f.readBefore bits.length))
    else .ok (r.instr (valueOf ((bits.drop r.fixed.length).take r.width)), r.fixed.length + r.width)

/-- The code-length symbols in order (30_encoding.md R77). -/
def codeLengthRows : List Instr :=
  [.clsym0, .clsym1, .clsym2, .clsym3, .clsym4, .clsym5, .clsym6, .clsym7, .clsym8,
   .clsym9, .clsym10, .clsym11, .clsym12, .clsym13, .clsym14, .clsym15, .clsym16, .clsym17]

/-- The block-count symbols in order (30_encoding.md R80). -/
def blockCountRows (c : Category) : List Instr :=
  [.blen0 c, .blen1 c, .blen2 c, .blen3 c, .blen4 c, .blen5 c, .blen6 c, .blen7 c, .blen8 c,
   .blen9 c, .blen10 c, .blen11 c, .blen12 c, .blen13 c, .blen14 c, .blen15 c, .blen16 c, .blen17 c,
   .blen18 c, .blen19 c, .blen20 c, .blen21 c, .blen22 c, .blen23 c, .blen24 c, .blen25 c]

/-- The command cells in order (30_encoding.md R81). -/
def commandRows : List (Nat → Instr) :=
  [.cmdCell0, .cmdCell1, .cmdCell2, .cmdCell3, .cmdCell4, .cmdCell5,
   .cmdCell6, .cmdCell7, .cmdCell8, .cmdCell9, .cmdCell10]

/-- The short distance codes in order (30_encoding.md R84). -/
def shortDistanceRows : List Instr :=
  [.dist0, .dist1, .dist2, .dist3, .dist4, .dist5, .dist6, .dist7,
   .dist8, .dist9, .dist10, .dist11, .dist12, .dist13, .dist14, .dist15]

/-- The insert length codes in order (30_encoding.md R82). -/
def insertLengthRows : List Instr :=
  [.inscode0, .inscode1, .inscode2, .inscode3, .inscode4, .inscode5, .inscode6, .inscode7,
   .inscode8, .inscode9, .inscode10, .inscode11, .inscode12, .inscode13, .inscode14, .inscode15,
   .inscode16, .inscode17, .inscode18, .inscode19, .inscode20, .inscode21, .inscode22, .inscode23]

/-- The copy length codes in order (30_encoding.md R83). -/
def copyLengthRows : List Instr :=
  [.copycode0, .copycode1, .copycode2, .copycode3, .copycode4, .copycode5, .copycode6, .copycode7,
   .copycode8, .copycode9, .copycode10, .copycode11, .copycode12, .copycode13, .copycode14, .copycode15,
   .copycode16, .copycode17, .copycode18, .copycode19, .copycode20, .copycode21, .copycode22, .copycode23]

/-- The transform ops by their op code (44_dictionary_transforms.md R198). -/
def transformOpRows (param : BitVec 16) : List Instr :=
  [.topIdentity, .topOmitLast1, .topOmitLast2, .topOmitLast3, .topOmitLast4, .topOmitLast5,
   .topOmitLast6, .topOmitLast7, .topOmitLast8, .topOmitLast9, .topUppercaseFirst, .topUppercaseAll,
   .topOmitFirst1, .topOmitFirst2, .topOmitFirst3, .topOmitFirst4, .topOmitFirst5, .topOmitFirst6,
   .topOmitFirst7, .topOmitFirst8, .topOmitFirst9, .topShiftFirst param, .topShiftAll param]

/-- Transforms 0 to 30 (44_dictionary_transforms.md R206). -/
def transformRowsFrom0 : List Instr :=
  [.transform0, .transform1, .transform2, .transform3, .transform4, .transform5, .transform6, .transform7,
   .transform8, .transform9, .transform10, .transform11, .transform12, .transform13, .transform14, .transform15,
   .transform16, .transform17, .transform18, .transform19, .transform20, .transform21, .transform22, .transform23,
   .transform24, .transform25, .transform26, .transform27, .transform28, .transform29, .transform30]

/-- Transforms 31 to 61 (44_dictionary_transforms.md R206). -/
def transformRowsFrom31 : List Instr :=
  [.transform31, .transform32, .transform33, .transform34, .transform35, .transform36, .transform37, .transform38,
   .transform39, .transform40, .transform41, .transform42, .transform43, .transform44, .transform45, .transform46,
   .transform47, .transform48, .transform49, .transform50, .transform51, .transform52, .transform53, .transform54,
   .transform55, .transform56, .transform57, .transform58, .transform59, .transform60, .transform61]

/-- Transforms 62 to 92 (44_dictionary_transforms.md R206). -/
def transformRowsFrom62 : List Instr :=
  [.transform62, .transform63, .transform64, .transform65, .transform66, .transform67, .transform68, .transform69,
   .transform70, .transform71, .transform72, .transform73, .transform74, .transform75, .transform76, .transform77,
   .transform78, .transform79, .transform80, .transform81, .transform82, .transform83, .transform84, .transform85,
   .transform86, .transform87, .transform88, .transform89, .transform90, .transform91, .transform92]

/-- Transforms 93 to 120 (44_dictionary_transforms.md R206). -/
def transformRowsFrom93 : List Instr :=
  [.transform93, .transform94, .transform95, .transform96, .transform97, .transform98, .transform99, .transform100,
   .transform101, .transform102, .transform103, .transform104, .transform105, .transform106, .transform107, .transform108,
   .transform109, .transform110, .transform111, .transform112, .transform113, .transform114, .transform115, .transform116,
   .transform117, .transform118, .transform119, .transform120]

/-- The transforms by their id (44_dictionary_transforms.md R206). -/
def transformRows : List Instr :=
  transformRowsFrom0 ++ transformRowsFrom31 ++ transformRowsFrom62 ++ transformRowsFrom93

/-- The dictionary buckets of word lengths 4 to 24 (44_dictionary_transforms.md R192). -/
def dictBucketRows : List Instr :=
  [.dictbucket4, .dictbucket5, .dictbucket6, .dictbucket7, .dictbucket8, .dictbucket9, .dictbucket10,
   .dictbucket11, .dictbucket12, .dictbucket13, .dictbucket14, .dictbucket15, .dictbucket16, .dictbucket17,
   .dictbucket18, .dictbucket19, .dictbucket20, .dictbucket21, .dictbucket22, .dictbucket23, .dictbucket24]

/-- The row of a symbol's value in its alphabet (30_encoding.md R77, R79 to R81, R84, R85, R92; 41_prefix_codes.md R119). -/
def symbolRow : Alphabet → Nat → Option Instr
  | .codeLength, v => codeLengthRows[v]?
  | .blockType c, v =>
    if v = 0 then some (.btype0 c) else if v = 1 then some (.btype1 c) else if v ≤ 257 then some (.btypeT c v) else none
  | .blockCount c, v => (blockCountRows c)[v]?
  | .contextMap rlemax, v =>
    if v = 0 then some .cmapsym0
    else if v ≤ rlemax then some (.cmapsymRun v)
    else if v ≤ 271 then some (.cmapsymValue v) else none
  | .literal, v => if v < 256 then some (.litB (BitVec.ofNat 8 v)) else none
  | .command, v => (commandRows[v / 64]?).map (fun f => f v)
  | .distance ndirect, v =>
    if v < 16 then shortDistanceRows[v]?
    else if v < 16 + ndirect then some (.distDirect v)
    else if v ≤ 519 then some (.distLong v) else none

/-- The row of an entry of a constant table. -/
def entryRow : Table → Nat → Option Instr
  | .insertLength, v => insertLengthRows[v]?
  | .copyLength, v => copyLengthRows[v]?
  | .transformOp param, v => (transformOpRows param)[v]?
  | .transform, v => if v < 121 then transformRows[v]? else some (.transformReserved v)
  | .dictBucket, v => if v < 4 then none else dictBucketRows[v - 4]?

/-- The decoder: the instruction that stands at a place of the grammar, and the number of stream bits its encoding
takes. Entries of constant tables take none: no bits of the stream spell them (30_encoding.md R94). -/
def decode : Ctx → Bits → Except DecodeError (Instr × Nat)
  | .operation st ph beyond, _ =>
    match operationRow st ph beyond with
    | some i => .ok (i, 0)
    | none => .error .noOperation
  | .field f, bits => decodeField f bits
  | .padding k n, bits =>
    if bits.length < n then .error (.endOfInput 0) else .ok (.pad k n (valueOf (bits.take n)), n)
  | .symbol a code, bits =>
    match decodeSymbol code bits with
    | .error e => .error e
    | .ok (v, n) =>
      match symbolRow a v with
      | some i => .ok (i, n)
      | none => .error (.noSuchEntry v)
  | .entry t v, _ =>
    match entryRow t v with
    | some i => .ok (i, 0)
    | none => .error (.noSuchEntry v)

/-! ### The opcode table, from a row to its encoding -/

/-- What the opcode table gives a row: nothing to read for an operation, fixed bits and an operand for a field, the value
of a symbol or of a table entry. -/
inductive Row
  | operation
  | field (f : Field) (fixed : Bits) (width x : Nat)
  | padding (k : PadKind) (n v : Nat)
  | symbol (v : Nat)
  | entry (v : Nat)
  deriving DecidableEq, Repr

/-- The row of `spec/opcode_table.json` that a constructor stands for. -/
def Instr.row (i : Instr) : Row :=
  match i with
  | .streamHeader => .operation
  | .mhdr => .operation
  | .metadata => .operation
  | .uncompressed => .operation
  | .setup => .operation
  | .cmd => .operation
  | .lit => .operation
  | .dist => .operation
  | .copy => .operation
  | .dict => .operation
  | .wbits16 => .field .wbits (pattern [0]) 0 0
  | .wbits18 => .field .wbits (pattern [1, 1, 0, 0]) 0 0
  | .wbits19 => .field .wbits (pattern [1, 0, 1, 0]) 0 0
  | .wbits20 => .field .wbits (pattern [1, 1, 1, 0]) 0 0
  | .wbits21 => .field .wbits (pattern [1, 0, 0, 1]) 0 0
  | .wbits22 => .field .wbits (pattern [1, 1, 0, 1]) 0 0
  | .wbits23 => .field .wbits (pattern [1, 0, 1, 1]) 0 0
  | .wbits24 => .field .wbits (pattern [1, 1, 1, 1]) 0 0
  | .wbits17 => .field .wbits (pattern [1, 0, 0, 0, 0, 0, 0]) 0 0
  | .wbitsLarge => .field .wbits (pattern [1, 0, 0, 0, 1, 0, 0]) 0 0
  | .wbits10 => .field .wbits (pattern [1, 0, 0, 0, 0, 1, 0]) 0 0
  | .wbits11 => .field .wbits (pattern [1, 0, 0, 0, 1, 1, 0]) 0 0
  | .wbits12 => .field .wbits (pattern [1, 0, 0, 0, 0, 0, 1]) 0 0
  | .wbits13 => .field .wbits (pattern [1, 0, 0, 0, 1, 0, 1]) 0 0
  | .wbits14 => .field .wbits (pattern [1, 0, 0, 0, 0, 1, 1]) 0 0
  | .wbits15 => .field .wbits (pattern [1, 0, 0, 0, 1, 1, 1]) 0 0
  | .mhdrLast1Empty1 => .field .mhdr (pattern [1, 1]) 0 0
  | .mhdrLast1Empty0 => .field .mhdr (pattern [1, 0]) 0 0
  | .mhdrLast0 => .field .mhdr (pattern [0]) 0 0
  | .mnibbles0 => .field .mnibbles (pattern [0, 0]) 0 0
  | .mnibbles1 => .field .mnibbles (pattern [1, 0]) 0 0
  | .mnibbles2 => .field .mnibbles (pattern [0, 1]) 0 0
  | .mnibbles3 => .field .mnibbles (pattern [1, 1]) 0 0
  | .mlenNibble x => .field .mlen (pattern []) 4 x
  | .isuncompressed0 => .field .isUncompressed (pattern [0]) 0 0
  | .isuncompressed1 => .field .isUncompressed (pattern [1]) 0 0
  | .metadataReserved0 => .field .reserved (pattern [0]) 0 0
  | .metadataReserved1 => .field .reserved (pattern [1]) 0 0
  | .mskipbytes0 => .field .mskipbytes (pattern [0, 0]) 0 0
  | .mskipbytes1 => .field .mskipbytes (pattern [1, 0]) 0 0
  | .mskipbytes2 => .field .mskipbytes (pattern [0, 1]) 0 0
  | .mskipbytes3 => .field .mskipbytes (pattern [1, 1]) 0 0
  | .mskiplenByte b => .field .mskiplen (pattern []) 8 b
  | .pad k n v => .padding k n v
  | .varlen0 => .field .varlen (pattern [0]) 0 0
  | .varlen1 => .field .varlen (pattern [1, 0, 0, 0]) 0 0
  | .varlenN1 x => .field .varlen (pattern [1, 1, 0, 0]) 1 x
  | .varlenN2 x => .field .varlen (pattern [1, 0, 1, 0]) 2 x
  | .varlenN3 x => .field .varlen (pattern [1, 1, 1, 0]) 3 x
  | .varlenN4 x => .field .varlen (pattern [1, 0, 0, 1]) 4 x
  | .varlenN5 x => .field .varlen (pattern [1, 1, 0, 1]) 5 x
  | .varlenN6 x => .field .varlen (pattern [1, 0, 1, 1]) 6 x
  | .varlenN7 x => .field .varlen (pattern [1, 1, 1, 1]) 7 x
  | .npostfix0 => .field .npostfix (pattern [0, 0]) 0 0
  | .npostfix1 => .field .npostfix (pattern [1, 0]) 0 0
  | .npostfix2 => .field .npostfix (pattern [0, 1]) 0 0
  | .npostfix3 => .field .npostfix (pattern [1, 1]) 0 0
  | .ndirect x => .field .ndirect (pattern []) 4 x
  | .cmodeLsb6 => .field .cmode (pattern [0, 0]) 0 0
  | .cmodeMsb6 => .field .cmode (pattern [1, 0]) 0 0
  | .cmodeUtf8 => .field .cmode (pattern [0, 1]) 0 0
  | .cmodeSigned => .field .cmode (pattern [1, 1]) 0 0
  | .cmapRlemax0 => .field .rlemax (pattern [0]) 0 0
  | .cmapRlemax x => .field .rlemax (pattern [1]) 4 x
  | .cmapImtf0 => .field .imtf (pattern [0]) 0 0
  | .cmapImtf1 => .field .imtf (pattern [1]) 0 0
  | .hskip0 => .field .hskip (pattern [0, 0]) 0 0
  | .hskip1 => .field .hskip (pattern [1, 0]) 0 0
  | .hskip2 => .field .hskip (pattern [0, 1]) 0 0
  | .hskip3 => .field .hskip (pattern [1, 1]) 0 0
  | .nsym1 => .field .nsym (pattern [0, 0]) 0 0
  | .nsym2 => .field .nsym (pattern [1, 0]) 0 0
  | .nsym3 => .field .nsym (pattern [0, 1]) 0 0
  | .nsym4 => .field .nsym (pattern [1, 1]) 0 0
  | .treeselect0 => .field .treeSelect (pattern [0]) 0 0
  | .treeselect1 => .field .treeSelect (pattern [1]) 0 0
  | .clcl0 => .field .clcl (pattern [0, 0]) 0 0
  | .clcl3 => .field .clcl (pattern [0, 1]) 0 0
  | .clcl4 => .field .clcl (pattern [1, 0]) 0 0
  | .clcl2 => .field .clcl (pattern [1, 1, 0]) 0 0
  | .clcl1 => .field .clcl (pattern [1, 1, 1, 0]) 0 0
  | .clcl5 => .field .clcl (pattern [1, 1, 1, 1]) 0 0
  | .clsym0 => .symbol 0
  | .clsym1 => .symbol 1
  | .clsym2 => .symbol 2
  | .clsym3 => .symbol 3
  | .clsym4 => .symbol 4
  | .clsym5 => .symbol 5
  | .clsym6 => .symbol 6
  | .clsym7 => .symbol 7
  | .clsym8 => .symbol 8
  | .clsym9 => .symbol 9
  | .clsym10 => .symbol 10
  | .clsym11 => .symbol 11
  | .clsym12 => .symbol 12
  | .clsym13 => .symbol 13
  | .clsym14 => .symbol 14
  | .clsym15 => .symbol 15
  | .clsym16 => .symbol 16
  | .clsym17 => .symbol 17
  | .btype0 _ => .symbol 0
  | .btype1 _ => .symbol 1
  | .btypeT _ t => .symbol t
  | .blen0 _ => .symbol 0
  | .blen1 _ => .symbol 1
  | .blen2 _ => .symbol 2
  | .blen3 _ => .symbol 3
  | .blen4 _ => .symbol 4
  | .blen5 _ => .symbol 5
  | .blen6 _ => .symbol 6
  | .blen7 _ => .symbol 7
  | .blen8 _ => .symbol 8
  | .blen9 _ => .symbol 9
  | .blen10 _ => .symbol 10
  | .blen11 _ => .symbol 11
  | .blen12 _ => .symbol 12
  | .blen13 _ => .symbol 13
  | .blen14 _ => .symbol 14
  | .blen15 _ => .symbol 15
  | .blen16 _ => .symbol 16
  | .blen17 _ => .symbol 17
  | .blen18 _ => .symbol 18
  | .blen19 _ => .symbol 19
  | .blen20 _ => .symbol 20
  | .blen21 _ => .symbol 21
  | .blen22 _ => .symbol 22
  | .blen23 _ => .symbol 23
  | .blen24 _ => .symbol 24
  | .blen25 _ => .symbol 25
  | .cmapsym0 => .symbol 0
  | .cmapsymRun v => .symbol v
  | .cmapsymValue v => .symbol v
  | .litB b => .symbol b.toNat
  | .cmdCell0 sym => .symbol sym
  | .cmdCell1 sym => .symbol sym
  | .cmdCell2 sym => .symbol sym
  | .cmdCell3 sym => .symbol sym
  | .cmdCell4 sym => .symbol sym
  | .cmdCell5 sym => .symbol sym
  | .cmdCell6 sym => .symbol sym
  | .cmdCell7 sym => .symbol sym
  | .cmdCell8 sym => .symbol sym
  | .cmdCell9 sym => .symbol sym
  | .cmdCell10 sym => .symbol sym
  | .inscode0 => .entry 0
  | .inscode1 => .entry 1
  | .inscode2 => .entry 2
  | .inscode3 => .entry 3
  | .inscode4 => .entry 4
  | .inscode5 => .entry 5
  | .inscode6 => .entry 6
  | .inscode7 => .entry 7
  | .inscode8 => .entry 8
  | .inscode9 => .entry 9
  | .inscode10 => .entry 10
  | .inscode11 => .entry 11
  | .inscode12 => .entry 12
  | .inscode13 => .entry 13
  | .inscode14 => .entry 14
  | .inscode15 => .entry 15
  | .inscode16 => .entry 16
  | .inscode17 => .entry 17
  | .inscode18 => .entry 18
  | .inscode19 => .entry 19
  | .inscode20 => .entry 20
  | .inscode21 => .entry 21
  | .inscode22 => .entry 22
  | .inscode23 => .entry 23
  | .copycode0 => .entry 0
  | .copycode1 => .entry 1
  | .copycode2 => .entry 2
  | .copycode3 => .entry 3
  | .copycode4 => .entry 4
  | .copycode5 => .entry 5
  | .copycode6 => .entry 6
  | .copycode7 => .entry 7
  | .copycode8 => .entry 8
  | .copycode9 => .entry 9
  | .copycode10 => .entry 10
  | .copycode11 => .entry 11
  | .copycode12 => .entry 12
  | .copycode13 => .entry 13
  | .copycode14 => .entry 14
  | .copycode15 => .entry 15
  | .copycode16 => .entry 16
  | .copycode17 => .entry 17
  | .copycode18 => .entry 18
  | .copycode19 => .entry 19
  | .copycode20 => .entry 20
  | .copycode21 => .entry 21
  | .copycode22 => .entry 22
  | .copycode23 => .entry 23
  | .dist0 => .symbol 0
  | .dist1 => .symbol 1
  | .dist2 => .symbol 2
  | .dist3 => .symbol 3
  | .dist4 => .symbol 4
  | .dist5 => .symbol 5
  | .dist6 => .symbol 6
  | .dist7 => .symbol 7
  | .dist8 => .symbol 8
  | .dist9 => .symbol 9
  | .dist10 => .symbol 10
  | .dist11 => .symbol 11
  | .dist12 => .symbol 12
  | .dist13 => .symbol 13
  | .dist14 => .symbol 14
  | .dist15 => .symbol 15
  | .distDirect code => .symbol code
  | .distLong code => .symbol code
  | .topIdentity => .entry 0
  | .topOmitLast1 => .entry 1
  | .topOmitLast2 => .entry 2
  | .topOmitLast3 => .entry 3
  | .topOmitLast4 => .entry 4
  | .topOmitLast5 => .entry 5
  | .topOmitLast6 => .entry 6
  | .topOmitLast7 => .entry 7
  | .topOmitLast8 => .entry 8
  | .topOmitLast9 => .entry 9
  | .topUppercaseFirst => .entry 10
  | .topUppercaseAll => .entry 11
  | .topOmitFirst1 => .entry 12
  | .topOmitFirst2 => .entry 13
  | .topOmitFirst3 => .entry 14
  | .topOmitFirst4 => .entry 15
  | .topOmitFirst5 => .entry 16
  | .topOmitFirst6 => .entry 17
  | .topOmitFirst7 => .entry 18
  | .topOmitFirst8 => .entry 19
  | .topOmitFirst9 => .entry 20
  | .topShiftFirst _ => .entry 21
  | .topShiftAll _ => .entry 22
  | .transformReserved tid => .entry tid
  | .transform0 => .entry 0
  | .transform1 => .entry 1
  | .transform2 => .entry 2
  | .transform3 => .entry 3
  | .transform4 => .entry 4
  | .transform5 => .entry 5
  | .transform6 => .entry 6
  | .transform7 => .entry 7
  | .transform8 => .entry 8
  | .transform9 => .entry 9
  | .transform10 => .entry 10
  | .transform11 => .entry 11
  | .transform12 => .entry 12
  | .transform13 => .entry 13
  | .transform14 => .entry 14
  | .transform15 => .entry 15
  | .transform16 => .entry 16
  | .transform17 => .entry 17
  | .transform18 => .entry 18
  | .transform19 => .entry 19
  | .transform20 => .entry 20
  | .transform21 => .entry 21
  | .transform22 => .entry 22
  | .transform23 => .entry 23
  | .transform24 => .entry 24
  | .transform25 => .entry 25
  | .transform26 => .entry 26
  | .transform27 => .entry 27
  | .transform28 => .entry 28
  | .transform29 => .entry 29
  | .transform30 => .entry 30
  | .transform31 => .entry 31
  | .transform32 => .entry 32
  | .transform33 => .entry 33
  | .transform34 => .entry 34
  | .transform35 => .entry 35
  | .transform36 => .entry 36
  | .transform37 => .entry 37
  | .transform38 => .entry 38
  | .transform39 => .entry 39
  | .transform40 => .entry 40
  | .transform41 => .entry 41
  | .transform42 => .entry 42
  | .transform43 => .entry 43
  | .transform44 => .entry 44
  | .transform45 => .entry 45
  | .transform46 => .entry 46
  | .transform47 => .entry 47
  | .transform48 => .entry 48
  | .transform49 => .entry 49
  | .transform50 => .entry 50
  | .transform51 => .entry 51
  | .transform52 => .entry 52
  | .transform53 => .entry 53
  | .transform54 => .entry 54
  | .transform55 => .entry 55
  | .transform56 => .entry 56
  | .transform57 => .entry 57
  | .transform58 => .entry 58
  | .transform59 => .entry 59
  | .transform60 => .entry 60
  | .transform61 => .entry 61
  | .transform62 => .entry 62
  | .transform63 => .entry 63
  | .transform64 => .entry 64
  | .transform65 => .entry 65
  | .transform66 => .entry 66
  | .transform67 => .entry 67
  | .transform68 => .entry 68
  | .transform69 => .entry 69
  | .transform70 => .entry 70
  | .transform71 => .entry 71
  | .transform72 => .entry 72
  | .transform73 => .entry 73
  | .transform74 => .entry 74
  | .transform75 => .entry 75
  | .transform76 => .entry 76
  | .transform77 => .entry 77
  | .transform78 => .entry 78
  | .transform79 => .entry 79
  | .transform80 => .entry 80
  | .transform81 => .entry 81
  | .transform82 => .entry 82
  | .transform83 => .entry 83
  | .transform84 => .entry 84
  | .transform85 => .entry 85
  | .transform86 => .entry 86
  | .transform87 => .entry 87
  | .transform88 => .entry 88
  | .transform89 => .entry 89
  | .transform90 => .entry 90
  | .transform91 => .entry 91
  | .transform92 => .entry 92
  | .transform93 => .entry 93
  | .transform94 => .entry 94
  | .transform95 => .entry 95
  | .transform96 => .entry 96
  | .transform97 => .entry 97
  | .transform98 => .entry 98
  | .transform99 => .entry 99
  | .transform100 => .entry 100
  | .transform101 => .entry 101
  | .transform102 => .entry 102
  | .transform103 => .entry 103
  | .transform104 => .entry 104
  | .transform105 => .entry 105
  | .transform106 => .entry 106
  | .transform107 => .entry 107
  | .transform108 => .entry 108
  | .transform109 => .entry 109
  | .transform110 => .entry 110
  | .transform111 => .entry 111
  | .transform112 => .entry 112
  | .transform113 => .entry 113
  | .transform114 => .entry 114
  | .transform115 => .entry 115
  | .transform116 => .entry 116
  | .transform117 => .entry 117
  | .transform118 => .entry 118
  | .transform119 => .entry 119
  | .transform120 => .entry 120
  | .dictbucket4 => .entry 4
  | .dictbucket5 => .entry 5
  | .dictbucket6 => .entry 6
  | .dictbucket7 => .entry 7
  | .dictbucket8 => .entry 8
  | .dictbucket9 => .entry 9
  | .dictbucket10 => .entry 10
  | .dictbucket11 => .entry 11
  | .dictbucket12 => .entry 12
  | .dictbucket13 => .entry 13
  | .dictbucket14 => .entry 14
  | .dictbucket15 => .entry 15
  | .dictbucket16 => .entry 16
  | .dictbucket17 => .entry 17
  | .dictbucket18 => .entry 18
  | .dictbucket19 => .entry 19
  | .dictbucket20 => .entry 20
  | .dictbucket21 => .entry 21
  | .dictbucket22 => .entry 22
  | .dictbucket23 => .entry 23
  | .dictbucket24 => .entry 24

/-- The encoder: the stream bits of an instruction at a place of the grammar, `none` where it cannot stand there. -/
def encode : Ctx → Instr → Option Bits
  | .operation st ph beyond, i => if operationRow st ph beyond = some i then some [] else none
  | .field f, i =>
    match i.row with
    | .field g fixed w x => if f = g ∧ x < 2 ^ w then some (fixed ++ bitsOf w x) else none
    | .operation | .padding _ _ _ | .symbol _ | .entry _ => none
  | .padding k n, i =>
    match i.row with
    | .padding k' n' v => if k = k' ∧ n = n' ∧ v < 2 ^ n then some (bitsOf n v) else none
    | .operation | .field _ _ _ _ | .symbol _ | .entry _ => none
  | .symbol a code, i =>
    match i.row with
    | .symbol v => if symbolRow a v = some i then codewordBits code v else none
    | .operation | .field _ _ _ _ | .padding _ _ _ | .entry _ => none
  | .entry t v, i => if entryRow t v = some i then some [] else none

/-! ### The host's view of a table word -/

/-- The length in bits of the longest element the decoder is ever given: a 15-bit codeword, rounded up to bytes. -/
def longestElement : Nat := 16

/-- What the decoder reads from an instruction whose bits are `w`, numbered as the opcode table numbers them. The block is
taken right after reset, where the next bits are the window-size field: no other place of the grammar can be told from the
bits alone (log entry 5). -/
def decodeTableWord (nbits w : Nat) : Option Instr :=
  match decode (.field .wbits) (bitsOf (max nbits longestElement) (w % 2 ^ nbits)) with
  | .ok (i, _) => some i
  | .error _ => none

end Sys2Proof
end

