-- ==== Sys2Proof/Machine/Memory.lean ====
section
/-! DEFINITION. A byte-addressed space of 20_memory.md R50: a sequence of bytes at the addresses 0, 1, 2, …, held as a list
of (address, byte) cells. An address outside the sequence does not exist and reads as nothing, so every byte of the
sequence is listed and the list is the sequence's only form. -/

namespace Sys2Proof.Machine

/-- A space: the input, the output, a caller's dictionary. -/
abbrev Memory := List Host.Cell

/-- What an address outside the space reads as: nothing (20_memory.md R51, R54, R59). -/
def Memory.absent : Option Byte := none

/-- The number of bytes of the space: INLEN, POS. -/
def Memory.size (m : Memory) : Nat := m.length

/-- The byte at an address. -/
def Memory.read (m : Memory) (a : Nat) : Option Byte :=
  match m.lookup a with
  | some b => some b
  | none => Memory.absent

/-- One more byte, at the next address (20_memory.md R56). -/
def Memory.push (m : Memory) (b : Byte) : Memory := m ++ [(m.size, b)]

/-- The cells of a byte sequence, from an address on. -/
def Memory.cellsFrom (a : Nat) : List Byte → Memory
  | [] => []
  | b :: bs => (a, b) :: Memory.cellsFrom (a + 1) bs

/-- The space that holds a byte sequence. -/
def Memory.ofBytes (bs : List Byte) : Memory := Memory.cellsFrom 0 bs

/-- The byte sequence a space holds. -/
def Memory.bytes (m : Memory) : List Byte := m.map Prod.snd

/-- The canonical form: the addresses listed are 0, 1, 2, … in order, each once. No entry can equal what an unlisted
address reads as, since that is nothing. -/
def Memory.wf (m : Memory) : Bool := m.map Prod.fst == List.range m.length

/-- The stream bit at position `k` (20_memory.md R52); positions past the end are not read (40_bitreader.md R97). -/
def Memory.bit (m : Memory) (k : Nat) : Bool :=
  match m.read (k / 8) with
  | some b => b.getLsbD (k % 8)
  | none => false

/-- The `n` bits from position `p` on, as a number whose bit 0 is the first (40_bitreader.md R96). -/
def Memory.field (m : Memory) (p : Nat) : Nat → Nat
  | 0 => 0
  | n + 1 => (m.bit p).toNat + 2 * m.field (p + 1) n

/-- The `n` bits from position `p` on, in stream order. -/
def Memory.bits (m : Memory) (p : Nat) : Nat → Bits
  | 0 => []
  | n + 1 => m.bit p :: m.bits (p + 1) n

/-- Packs `n` bytes from a bit sequence, bit 0 of each byte first (20_memory.md R52). -/
def bytesOfBits : Nat → Bits → List Byte
  | 0, _ => []
  | n + 1, bs => BitVec.ofNat 8 (valueOf (bs.take 8)) :: bytesOfBits n (bs.drop 8)

end Sys2Proof.Machine
end

