-- ==== Sys2Proof/Machine/State.lean ====
section
/-! DEFINITION. The state: every field that 10_state.md gives the block, the host's call (60_exceptions.md R227) and the
parameters of 00_scope.md R10, which no operation writes; and the model's own workspace, the local variables of the
operation under way. Plain data throughout. -/

namespace Sys2Proof.Machine

/-- Why the model stops with a fault. None is a behaviour of the block: an error of the block is the state Error. -/
inductive Fault
  /-- Raised by a meaning that is run in a decoder state or phase in which the spec does not enable it ("Each operation runs
  when `S.state` has the value in its title"; "no operation is enabled" in Done and Error). `step` never raises it. Safe. -/
  | notEnabled
  /-- Raised by a read of a table entry that was never written ("A model faults if it reads an unset field; the rules never
  do so on any path", 10_state.md; 60_exceptions.md R210). Safe. -/
  | unsetField
  /-- Raised by a symbol row whose symbol has no codeword in the prefix code in force: no stream bits spell it there, so it
  is never decoded (41_prefix_codes.md R118, R123). Safe. -/
  | symbolNotInCode
  /-- Raised where decoding finds no element: a prefix code that fails its space check (41_prefix_codes.md R123,
  "unreachable"), or a table index outside its table. Safe. -/
  | noElement
  /-- Raised by an output read outside 1 ≤ d ≤ min(POS, MAX_BACKWARD), addresses the spec says are never read
  (20_memory.md R57). Safe. -/
  | addressAbsent
  deriving DecidableEq, Repr

/-- Why the model refuses to go on. -/
inductive Refusal
  /-- No meaning yet. Safe. -/
  | notModelled (mnemonic : String)
  /-- Raised by the window-size marker of a large-window stream when LARGE_WINDOW is true: the spec says that the model
  refuses it (42_metablock.md R131). Safe. -/
  | largeWindow
  deriving DecidableEq, Repr

/-- The outcome of one step. -/
abbrev Answer (σ : Type) := Host.Outcome σ Fault Refusal

/-- The error record (10_state.md R23; 60_exceptions.md R211). -/
structure ErrRecord where
  kind    : ErrorKind
  code    : Int
  message : String
  deriving DecidableEq, Repr

/-- A context mode (30_encoding.md R86). -/
inductive CtxMode
  | lsb6 | msb6 | utf8 | signed
  deriving DecidableEq, Repr

/-- The block-type tracker of a category (10_state.md R30). The two prefix codes are empty when `nbltypes` is 1. -/
structure Tracker where
  nbltypes   : Nat
  btype      : Nat
  blen       : Nat
  prevType   : Nat
  htreeBtype : PrefixCode
  htreeBlen  : PrefixCode
  deriving DecidableEq, Repr

/-- The value the model gives an unset tracker (log entry 1). -/
def Tracker.unset : Tracker :=
  { nbltypes := 0, btype := 0, blen := 0, prevType := 0, htreeBtype := [], htreeBlen := [] }

/-- The distance ring `[d0, d1, d2, d3]`, the last distance first (10_state.md R35). -/
structure DistRing where
  d0 : Nat
  d1 : Nat
  d2 : Nat
  d3 : Nat
  deriving DecidableEq, Repr

/-- The model's own: the local variables that the rules' pseudocode names. -/
structure Work where
  /-- The number of MLEN nibbles (42_metablock.md R133). -/
  nibbles   : Nat
  /-- The number of MSKIPLEN bytes, `skb` (R137). -/
  skb       : Nat
  /-- A length under construction: `v` of R134, `len` of R138. -/
  acc       : Nat
  /-- The loop counter `i` of R134, R138 and 41_prefix_codes.md R108. -/
  index     : Nat
  /-- The value of a variable-length count (30_encoding.md R75). -/
  count     : Nat
  /-- The alphabet size `A` of the prefix code being read (41_prefix_codes.md R104). -/
  alphabet  : Nat
  /-- `hskip` (R104). -/
  hskip     : Nat
  /-- The symbols of a simple code in the order read (R107). -/
  syms      : List Nat
  /-- `cl`, the code-length code (R108). -/
  cl        : PrefixCode
  /-- `num` (R108). -/
  num       : Nat
  /-- `space` (R108, R111). -/
  space     : Int
  /-- `len`, the code being read, and at its end the code read (R111). -/
  lens      : PrefixCode
  /-- `symbol` (R111). -/
  symbol    : Nat
  /-- `prevLen` (R111). -/
  prevLen   : Nat
  /-- `repeat` (R111). -/
  rep       : Nat
  /-- `repeatLen` (R111). -/
  repLen    : Nat
  /-- `RLEMAX` (42_metablock.md R148). -/
  rlemax    : Nat
  /-- `size`, of the context map being read (R148). -/
  mapSize   : Nat
  /-- `map`, the entries of the context map written so far (R149). -/
  map       : List Nat
  /-- `wordId` (44_dictionary_transforms.md R190). -/
  wordId    : Nat
  /-- `tid` (R190). -/
  tid       : Nat
  /-- `word`, then `bytes` (R190). -/
  word      : List Byte
  deriving DecidableEq, Repr

/-- The workspace between operations. -/
def Work.idle : Work :=
  { nibbles := 0, skb := 0, acc := 0, index := 0, count := 0, alphabet := 0, hskip := 0, syms := [], cl := [], num := 0,
    space := 0, lens := [], symbol := 0, prevLen := 0, rep := 0, repLen := 0, rlemax := 0, mapSize := 0, map := [],
    wordId := 0, tid := 0, word := [] }

/-- The machine's state. -/
structure State where
  /-- The parameters (00_scope.md R10). No operation writes them. -/
  params         : Params
  /-- `DICT`, the caller's dictionary, or none (00_scope.md R15). No operation writes it. -/
  dict           : Option Memory
  /-- `S.in` (10_state.md R24). No operation writes it. -/
  inp            : Memory
  /-- `S.state` (R20). -/
  state          : DecState
  /-- `S.cmdPhase` (R22). -/
  cmdPhase       : CmdPhase
  /-- `S.err` (R23). -/
  err            : Option ErrRecord
  /-- `S.bitpos` (R25). -/
  bitpos         : Nat
  /-- `S.wbits` (R26). -/
  wbits          : Nat
  /-- `S.isLast` (R27). -/
  isLast         : Bool
  /-- `S.isLastEmpty` (R27). -/
  isLastEmpty    : Bool
  /-- `S.isUncompressed` (R27). -/
  isUncompressed : Bool
  /-- `S.isMetadata` (R27). -/
  isMetadata     : Bool
  /-- `S.mlen` (R28). -/
  mlen           : Nat
  /-- `S.remaining` (R29). -/
  remaining      : Nat
  /-- The tracker of the category L (R30). -/
  trackerL       : Tracker
  /-- The tracker of the category I (R30). -/
  trackerI       : Tracker
  /-- The tracker of the category D (R30). -/
  trackerD       : Tracker
  /-- `S.npostfix` (R31). -/
  npostfix       : Nat
  /-- `S.ndirect` (R31). -/
  ndirect        : Nat
  /-- `S.cmode` (R32). -/
  cmode          : List CtxMode
  /-- `S.ntreesL` (R33). -/
  ntreesL        : Nat
  /-- `S.cmapL` (R33). -/
  cmapL          : List Nat
  /-- `S.ntreesD` (R33). -/
  ntreesD        : Nat
  /-- `S.cmapD` (R33). -/
  cmapD          : List Nat
  /-- `S.htreeL` (R34). -/
  htreeL         : List PrefixCode
  /-- `S.htreeI` (R34). -/
  htreeI         : List PrefixCode
  /-- `S.htreeD` (R34). -/
  htreeD         : List PrefixCode
  /-- `S.distRing` (R35). -/
  distRing       : DistRing
  /-- `S.out` (R36). -/
  out            : Memory
  /-- `S.insertLen` (R38). -/
  insertLen      : Nat
  /-- `S.copyLen` (R38). -/
  copyLen        : Nat
  /-- `S.implicitD0` (R38). -/
  implicitD0     : Bool
  /-- `S.distCtx` (R38). -/
  distCtx        : Nat
  /-- `S.dcode` (R39). -/
  dcode          : Nat
  /-- `S.distance` (R39). -/
  distance       : Int
  /-- The model's own workspace. -/
  work           : Work
  deriving DecidableEq, Repr

/-- The state at the start of a decode (10_state.md R44; 70_reset_and_hazards.md R230), with the default parameters, no
caller's dictionary and no input passed yet. The fields the spec leaves unset hold the values of log entry 1. -/
def State.reset : State :=
  { params := .default, dict := none, inp := [], state := .streamHeader, cmdPhase := .cmdBegin, err := none, bitpos := 0,
    wbits := 0, isLast := false, isLastEmpty := false, isUncompressed := false, isMetadata := false, mlen := 0,
    remaining := 0, trackerL := .unset, trackerI := .unset, trackerD := .unset, npostfix := 0, ndirect := 0, cmode := [],
    ntreesL := 0, cmapL := [], ntreesD := 0, cmapD := [], htreeL := [], htreeI := [], htreeD := [],
    distRing := { d0 := 4, d1 := 11, d2 := 15, d3 := 16 }, out := [], insertLen := 0, copyLen := 0, implicitD0 := false,
    distCtx := 0, dcode := 0, distance := 0, work := .idle }

end Sys2Proof.Machine
end

