-- ==== Sys2Proof/Machine/Tables.lean ====
section
/-! DEFINITION. The constant tables of 30_encoding.md and 44_dictionary_transforms.md (10_state.md R40). -/

namespace Sys2Proof.Machine

/-- The order in which the code-length-code lengths are read (30_encoding.md R78). -/
def codeLengthOrder : List Nat := [1, 2, 3, 4, 0, 5, 17, 6, 16, 7, 8, 9, 10, 11, 12, 13, 14, 15]

/-- BLBASE (30_encoding.md R80). -/
def blockCountBase : List Nat :=
  [1, 5, 9, 13, 17, 25, 33, 41, 49, 65, 81, 97, 113, 145, 177, 209, 241, 305,
   369, 497, 753, 1265, 2289, 4337, 8433, 16625]

/-- BLEXTRA (30_encoding.md R80). -/
def blockCountExtra : List Nat :=
  [2, 2, 2, 2, 3, 3, 3, 3, 4, 4, 4, 4, 5, 5, 5, 5, 6, 6, 7, 8, 9, 10, 11, 12, 13, 24]

/-- ICBASE, by cell (30_encoding.md R81). -/
def insertCodeBase : List Nat := [0, 0, 0, 0, 8, 8, 0, 16, 8, 16, 16]

/-- CCBASE, by cell (30_encoding.md R81). -/
def copyCodeBase : List Nat := [0, 8, 0, 8, 0, 8, 16, 0, 16, 8, 16]

/-- INSBASE (30_encoding.md R82). -/
def insertBase : List Nat :=
  [0, 1, 2, 3, 4, 5, 6, 8, 10, 14, 18, 26, 34, 50, 66, 98, 130, 194, 322, 578, 1090, 2114, 6210, 22594]

/-- INSEXTRA (30_encoding.md R82). -/
def insertExtra : List Nat := [0, 0, 0, 0, 0, 0, 1, 1, 2, 2, 3, 3, 4, 4, 5, 5, 6, 7, 8, 9, 10, 12, 14, 24]

/-- CPBASE (30_encoding.md R83). -/
def copyBase : List Nat :=
  [2, 3, 4, 5, 6, 7, 8, 9, 10, 12, 14, 18, 22, 30, 38, 54, 70, 102, 134, 198, 326, 582, 1094, 2118]

/-- CPEXTRA (30_encoding.md R83). -/
def copyExtra : List Nat := [0, 0, 0, 0, 0, 0, 0, 0, 1, 1, 2, 2, 3, 3, 4, 4, 5, 5, 6, 7, 8, 9, 10, 24]

/-- LUT0 below 0x80 (30_encoding.md R87). -/
def lut0Ascii : List Nat :=
  [0, 0, 0, 0, 0, 0, 0, 0, 0, 4, 4, 0, 0, 4, 0, 0] ++
  [0, 0, 0, 0, 0, 0, 0, 0, 0, 0, 0, 0, 0, 0, 0, 0] ++
  [8, 12, 16, 12, 12, 20, 12, 16, 24, 28, 12, 12, 32, 12, 36, 12] ++
  [44, 44, 44, 44, 44, 44, 44, 44, 44, 44, 32, 32, 24, 40, 28, 12] ++
  [12, 48, 52, 52, 52, 48, 52, 52, 52, 48, 52, 52, 52, 52, 52, 48] ++
  [52, 52, 52, 52, 52, 48, 52, 52, 52, 52, 52, 24, 12, 28, 12, 12] ++
  [12, 56, 60, 60, 60, 56, 60, 60, 60, 56, 60, 60, 60, 60, 60, 56] ++
  [60, 60, 60, 60, 60, 56, 60, 60, 60, 60, 60, 24, 12, 28, 12, 0]

/-- LUT0 (30_encoding.md R87). -/
def lut0 (b : Nat) : Nat :=
  if b < 0x80 then lut0Ascii.getD b 0 else if b < 0xC0 then b % 2 else 2 + b % 2

/-- LUT1 from 0x20 to 0x7F (30_encoding.md R88). -/
def lut1Ascii : List Nat :=
  [0, 1, 1, 1, 1, 1, 1, 1, 1, 1, 1, 1, 1, 1, 1, 1] ++
  [2, 2, 2, 2, 2, 2, 2, 2, 2, 2, 1, 1, 1, 1, 1, 1] ++
  [1, 2, 2, 2, 2, 2, 2, 2, 2, 2, 2, 2, 2, 2, 2, 2] ++
  [2, 2, 2, 2, 2, 2, 2, 2, 2, 2, 2, 1, 1, 1, 1, 1] ++
  [1, 3, 3, 3, 3, 3, 3, 3, 3, 3, 3, 3, 3, 3, 3, 3] ++
  [3, 3, 3, 3, 3, 3, 3, 3, 3, 3, 3, 1, 1, 1, 1, 0]

/-- LUT1 (30_encoding.md R88). -/
def lut1 (b : Nat) : Nat :=
  if b < 0x20 then 0 else if b < 0x80 then lut1Ascii.getD (b - 0x20) 0 else if b < 0xC0 then 0 else 2

/-- LUT2 (30_encoding.md R89). -/
def lut2 (b : Nat) : Nat :=
  if b = 0 then 0 else if b ≤ 15 then 1 else if b ≤ 63 then 2 else if b ≤ 127 then 3 else if b ≤ 191 then 4
  else if b ≤ 239 then 5 else if b ≤ 254 then 6 else 7

/-- NDBITS of the word lengths 4 to 24 (44_dictionary_transforms.md R192). -/
def ndbits : List Nat := [10, 10, 11, 11, 10, 10, 10, 10, 10, 9, 9, 8, 7, 7, 8, 7, 7, 6, 6, 5, 5]

/-- DOFFSET of the word lengths 4 to 24 (44_dictionary_transforms.md R192). -/
def doffset : List Nat :=
  [0, 4096, 9216, 21504, 35840, 44032, 53248, 63488, 74752, 87040,
   93696, 100864, 104704, 106752, 108928, 113536, 115968, 118528, 119872, 121280, 122016]

/-- MAXTAB, the largest two-level table with a root of 8 bits for an alphabet of size `A`, at index `(A + 31) / 32`. It
bounds storage only: no rule depends on it (41_prefix_codes.md R122). -/
def maxTableSize : List Nat :=
  [256, 402, 436, 468, 500, 534, 566, 598, 630, 662, 694, 726, 758, 790, 822, 854, 886, 920, 952, 984, 1016, 1048, 1080]

/-- A transform op (44_dictionary_transforms.md R198). The shift ops carry the transform's parameter. -/
inductive TransformOp
  | identity
  | omitLast (k : Nat)
  | uppercaseFirst
  | uppercaseAll
  | omitFirst (k : Nat)
  | shiftFirst (param : BitVec 16)
  | shiftAll (param : BitVec 16)
  deriving DecidableEq, Repr

/-- A transform: the bytes put before the word, the op, the bytes put after it (44_dictionary_transforms.md R197). -/
structure Transform where
  pre : List Byte
  op  : TransformOp
  suf : List Byte
  deriving DecidableEq, Repr

/-- Transforms 0 to 30 (44_dictionary_transforms.md R206). -/
def transformsFrom0 : List Transform :=
  [ { pre := [], op := .identity, suf := [] }
  , { pre := [], op := .identity, suf := [0x20] }
  , { pre := [0x20], op := .identity, suf := [0x20] }
  , { pre := [], op := .omitFirst 1, suf := [] }
  , { pre := [], op := .uppercaseFirst, suf := [0x20] }
  , { pre := [], op := .identity, suf := [0x20, 0x74, 0x68, 0x65, 0x20] }
  , { pre := [0x20], op := .identity, suf := [] }
  , { pre := [0x73, 0x20], op := .identity, suf := [0x20] }
  , { pre := [], op := .identity, suf := [0x20, 0x6F, 0x66, 0x20] }
  , { pre := [], op := .uppercaseFirst, suf := [] }
  , { pre := [], op := .identity, suf := [0x20, 0x61, 0x6E, 0x64, 0x20] }
  , { pre := [], op := .omitFirst 2, suf := [] }
  , { pre := [], op := .omitLast 1, suf := [] }
  , { pre := [0x2C, 0x20], op := .identity, suf := [0x20] }
  , { pre := [], op := .identity, suf := [0x2C, 0x20] }
  , { pre := [0x20], op := .uppercaseFirst, suf := [0x20] }
  , { pre := [], op := .identity, suf := [0x20, 0x69, 0x6E, 0x20] }
  , { pre := [], op := .identity, suf := [0x20, 0x74, 0x6F, 0x20] }
  , { pre := [0x65, 0x20], op := .identity, suf := [0x20] }
  , { pre := [], op := .identity, suf := [0x22] }
  , { pre := [], op := .identity, suf := [0x2E] }
  , { pre := [], op := .identity, suf := [0x22, 0x3E] }
  , { pre := [], op := .identity, suf := [0x0A] }
  , { pre := [], op := .omitLast 3, suf := [] }
  , { pre := [], op := .identity, suf := [0x5D] }
  , { pre := [], op := .identity, suf := [0x20, 0x66, 0x6F, 0x72, 0x20] }
  , { pre := [], op := .omitFirst 3, suf := [] }
  , { pre := [], op := .omitLast 2, suf := [] }
  , { pre := [], op := .identity, suf := [0x20, 0x61, 0x20] }
  , { pre := [], op := .identity, suf := [0x20, 0x74, 0x68, 0x61, 0x74, 0x20] }
  , { pre := [0x20], op := .uppercaseFirst, suf := [] } ]

/-- Transforms 31 to 61 (44_dictionary_transforms.md R206). -/
def transformsFrom31 : List Transform :=
  [ { pre := [], op := .identity, suf := [0x2E, 0x20] }
  , { pre := [0x2E], op := .identity, suf := [] }
  , { pre := [0x20], op := .identity, suf := [0x2C, 0x20] }
  , { pre := [], op := .omitFirst 4, suf := [] }
  , { pre := [], op := .identity, suf := [0x20, 0x77, 0x69, 0x74, 0x68, 0x20] }
  , { pre := [], op := .identity, suf := [0x27] }
  , { pre := [], op := .identity, suf := [0x20, 0x66, 0x72, 0x6F, 0x6D, 0x20] }
  , { pre := [], op := .identity, suf := [0x20, 0x62, 0x79, 0x20] }
  , { pre := [], op := .omitFirst 5, suf := [] }
  , { pre := [], op := .omitFirst 6, suf := [] }
  , { pre := [0x20, 0x74, 0x68, 0x65, 0x20], op := .identity, suf := [] }
  , { pre := [], op := .omitLast 4, suf := [] }
  , { pre := [], op := .identity, suf := [0x2E, 0x20, 0x54, 0x68, 0x65, 0x20] }
  , { pre := [], op := .uppercaseAll, suf := [] }
  , { pre := [], op := .identity, suf := [0x20, 0x6F, 0x6E, 0x20] }
  , { pre := [], op := .identity, suf := [0x20, 0x61, 0x73, 0x20] }
  , { pre := [], op := .identity, suf := [0x20, 0x69, 0x73, 0x20] }
  , { pre := [], op := .omitLast 7, suf := [] }
  , { pre := [], op := .omitLast 1, suf := [0x69, 0x6E, 0x67, 0x20] }
  , { pre := [], op := .identity, suf := [0x0A, 0x09] }
  , { pre := [], op := .identity, suf := [0x3A] }
  , { pre := [0x20], op := .identity, suf := [0x2E, 0x20] }
  , { pre := [], op := .identity, suf := [0x65, 0x64, 0x20] }
  , { pre := [], op := .omitFirst 9, suf := [] }
  , { pre := [], op := .omitFirst 7, suf := [] }
  , { pre := [], op := .omitLast 6, suf := [] }
  , { pre := [], op := .identity, suf := [0x28] }
  , { pre := [], op := .uppercaseFirst, suf := [0x2C, 0x20] }
  , { pre := [], op := .omitLast 8, suf := [] }
  , { pre := [], op := .identity, suf := [0x20, 0x61, 0x74, 0x20] }
  , { pre := [], op := .identity, suf := [0x6C, 0x79, 0x20] } ]

/-- Transforms 62 to 92 (44_dictionary_transforms.md R206). -/
def transformsFrom62 : List Transform :=
  [ { pre := [0x20, 0x74, 0x68, 0x65, 0x20], op := .identity, suf := [0x20, 0x6F, 0x66, 0x20] }
  , { pre := [], op := .omitLast 5, suf := [] }
  , { pre := [], op := .omitLast 9, suf := [] }
  , { pre := [0x20], op := .uppercaseFirst, suf := [0x2C, 0x20] }
  , { pre := [], op := .uppercaseFirst, suf := [0x22] }
  , { pre := [0x2E], op := .identity, suf := [0x28] }
  , { pre := [], op := .uppercaseAll, suf := [0x20] }
  , { pre := [], op := .uppercaseFirst, suf := [0x22, 0x3E] }
  , { pre := [], op := .identity, suf := [0x3D, 0x22] }
  , { pre := [0x20], op := .identity, suf := [0x2E] }
  , { pre := [0x2E, 0x63, 0x6F, 0x6D, 0x2F], op := .identity, suf := [] }
  , { pre := [0x20, 0x74, 0x68, 0x65, 0x20], op := .identity, suf := [0x20, 0x6F, 0x66, 0x20, 0x74, 0x68, 0x65, 0x20] }
  , { pre := [], op := .uppercaseFirst, suf := [0x27] }
  , { pre := [], op := .identity, suf := [0x2E, 0x20, 0x54, 0x68, 0x69, 0x73, 0x20] }
  , { pre := [], op := .identity, suf := [0x2C] }
  , { pre := [0x2E], op := .identity, suf := [0x20] }
  , { pre := [], op := .uppercaseFirst, suf := [0x28] }
  , { pre := [], op := .uppercaseFirst, suf := [0x2E] }
  , { pre := [], op := .identity, suf := [0x20, 0x6E, 0x6F, 0x74, 0x20] }
  , { pre := [0x20], op := .identity, suf := [0x3D, 0x22] }
  , { pre := [], op := .identity, suf := [0x65, 0x72, 0x20] }
  , { pre := [0x20], op := .uppercaseAll, suf := [0x20] }
  , { pre := [], op := .identity, suf := [0x61, 0x6C, 0x20] }
  , { pre := [0x20], op := .uppercaseAll, suf := [] }
  , { pre := [], op := .identity, suf := [0x3D, 0x27] }
  , { pre := [], op := .uppercaseAll, suf := [0x22] }
  , { pre := [], op := .uppercaseFirst, suf := [0x2E, 0x20] }
  , { pre := [0x20], op := .identity, suf := [0x28] }
  , { pre := [], op := .identity, suf := [0x66, 0x75, 0x6C, 0x20] }
  , { pre := [0x20], op := .uppercaseFirst, suf := [0x2E, 0x20] }
  , { pre := [], op := .identity, suf := [0x69, 0x76, 0x65, 0x20] } ]

/-- Transforms 93 to 120 (44_dictionary_transforms.md R206). -/
def transformsFrom93 : List Transform :=
  [ { pre := [], op := .identity, suf := [0x6C, 0x65, 0x73, 0x73, 0x20] }
  , { pre := [], op := .uppercaseAll, suf := [0x27] }
  , { pre := [], op := .identity, suf := [0x65, 0x73, 0x74, 0x20] }
  , { pre := [0x20], op := .uppercaseFirst, suf := [0x2E] }
  , { pre := [], op := .uppercaseAll, suf := [0x22, 0x3E] }
  , { pre := [0x20], op := .identity, suf := [0x3D, 0x27] }
  , { pre := [], op := .uppercaseFirst, suf := [0x2C] }
  , { pre := [], op := .identity, suf := [0x69, 0x7A, 0x65, 0x20] }
  , { pre := [], op := .uppercaseAll, suf := [0x2E] }
  , { pre := [0xC2, 0xA0], op := .identity, suf := [] }
  , { pre := [0x20], op := .identity, suf := [0x2C] }
  , { pre := [], op := .uppercaseFirst, suf := [0x3D, 0x22] }
  , { pre := [], op := .uppercaseAll, suf := [0x3D, 0x22] }
  , { pre := [], op := .identity, suf := [0x6F, 0x75, 0x73, 0x20] }
  , { pre := [], op := .uppercaseAll, suf := [0x2C, 0x20] }
  , { pre := [], op := .uppercaseFirst, suf := [0x3D, 0x27] }
  , { pre := [0x20], op := .uppercaseFirst, suf := [0x2C] }
  , { pre := [0x20], op := .uppercaseAll, suf := [0x3D, 0x22] }
  , { pre := [0x20], op := .uppercaseAll, suf := [0x2C, 0x20] }
  , { pre := [], op := .uppercaseAll, suf := [0x2C] }
  , { pre := [], op := .uppercaseAll, suf := [0x28] }
  , { pre := [], op := .uppercaseAll, suf := [0x2E, 0x20] }
  , { pre := [0x20], op := .uppercaseAll, suf := [0x2E] }
  , { pre := [], op := .uppercaseAll, suf := [0x3D, 0x27] }
  , { pre := [0x20], op := .uppercaseAll, suf := [0x2E, 0x20] }
  , { pre := [0x20], op := .uppercaseFirst, suf := [0x3D, 0x22] }
  , { pre := [0x20], op := .uppercaseAll, suf := [0x3D, 0x27] }
  , { pre := [0x20], op := .uppercaseFirst, suf := [0x3D, 0x27] } ]

/-- TRANSFORMS (44_dictionary_transforms.md R206). -/
def transforms : List Transform :=
  transformsFrom0 ++ transformsFrom31 ++ transformsFrom62 ++ transformsFrom93

end Sys2Proof.Machine
end

