-- ==== Sys2Proof/Machine/Ops.lean ====
section
/-! DEFINITION. The named operations over the state that every meaning is built from: how an operation stops, the raising
of an error (the block's one exception), the bit reader of 40_bitreader.md, the spaces of 20_memory.md, and the ends of
commands and meta-blocks. -/

namespace Sys2Proof.Machine

/-! ### How an operation ends -/

/-- Why an operation does not complete. `raise` carries the bit cursor at the raise. -/
inductive Stop
  | raise (k : ErrorKind) (info : String) (at_ : Nat)
  | fault (f : Fault)
  | refuse (r : Refusal)
  deriving DecidableEq, Repr

/-- A computation inside an operation: the first stop ends it ("No later line of the operation's pseudocode runs",
60_exceptions.md R211). -/
abbrev Res (α : Type) := Except Stop α

/-- `raise K(info)` at the cursor of `s` (60_exceptions.md R211). -/
def raise {α : Type} (k : ErrorKind) (info : String) (s : State) : Res α := .error (.raise k info s.bitpos)

/-- Taking the exception: the record is saved in `S.err` and the state becomes Error; there is no mode, handler or vector
(60_exceptions.md R211, R221). -/
def takeError (k : ErrorKind) (info : String) (s : State) : State :=
  { s with err := some { kind := k, code := Config.errorCode k, message := info }, state := .error }

/-- The outcome of an operation that began in `s`. One that completes leaves the state it computed. One that raises leaves
`s` with the error taken: no partial effect survives but the bit cursor, which stays where the failing check stood
(00_scope.md R14; 60_exceptions.md R212, R221; log entry 4). -/
def deliver (s : State) (r : Res State) : Answer State :=
  match r with
  | .ok t => .next t
  | .error (.raise k info p) => .next (takeError k info { s with bitpos := p })
  | .error (.fault f) => .fault f
  | .error (.refuse x) => .refused x

/-- An operation or element enabled in the given decoder states ("Each operation runs when `S.state` has the value in its
title", 42_metablock.md). -/
def during (states : List DecState) (s : State) (r : Res State) : Answer State :=
  if s.state ∈ states then deliver s r else .fault .notEnabled

/-- An operation or element enabled in one phase of the command loop (10_state.md R22). -/
def duringPhase (p : CmdPhase) (s : State) (r : Res State) : Answer State :=
  if s.state = .commandLoop ∧ s.cmdPhase = p then deliver s r else .fault .notEnabled

/-- `goto` (00_scope.md R13; 10_state.md R21). -/
def State.goto (s : State) (st : DecState) : State := { s with state := st }

/-- Leaves the workspace idle, at the end of an operation that used it. -/
def State.rest (s : State) : State := { s with work := .idle }

/-- A check of an allocation site (42_metablock.md R157, R158; 60_exceptions.md R216). -/
def allocate (site : AllocSite) (k : ErrorKind) (s : State) : Res State :=
  if site ∈ s.params.allocFail then raise k "allocation failed" s else .ok s

/-! ### Loops -/

/-- `n` times the body. -/
def iterate : Nat → (State → Res State) → State → Res State
  | 0, _, s => .ok s
  | n + 1, f, s => do iterate n f (← f s)

/-- The body while the condition holds, at most `n` times: `n` bounds the number of turns the rule's loop can take. -/
def iterateWhile : Nat → (State → Bool) → (State → Res State) → State → Res State
  | 0, _, _, s => .ok s
  | n + 1, c, f, s => if c s then do iterateWhile n c f (← f s) else .ok s

/-! ### Trackers (10_state.md R30) -/

/-- The tracker of a category. -/
def State.tracker (s : State) : Category → Tracker
  | .L => s.trackerL
  | .I => s.trackerI
  | .D => s.trackerD

/-- Writes the tracker of a category. -/
def State.setTracker (s : State) (c : Category) (t : Tracker) : State :=
  match c with
  | .L => { s with trackerL := t }
  | .I => { s with trackerI := t }
  | .D => { s with trackerD := t }

/-! ### The bit reader (40_bitreader.md) -/

/-- `8 * INLEN`: the number of stream bits. -/
def State.inputBits (s : State) : Nat := 8 * s.inp.size

/-- The cursor moved past `n` bits (R96). -/
def State.advance (s : State) (n : Nat) : State := { s with bitpos := s.bitpos + n }

/-- Consumes `n` bits, whose value the caller knows; the end-of-input check comes before anything changes (R96, R97). -/
def skip (n : Nat) (s : State) : Res State :=
  if s.bitpos + n ≤ s.inputBits then .ok (s.advance n)
  else raise .invalidArguments "read past end of input" s

/-- `readBits(n)` (R96): the value of the next `n` bits, bit 0 first, and the state with the cursor past them. -/
def readBits (n : Nat) (s : State) : Res (Nat × State) := do
  let t ← skip n s
  return (s.inp.field s.bitpos n, t)

/-- The bits at the cursor that decoding may look at, at most the longest element. A look past the end raises nothing
(R97, R101). -/
def State.window (s : State) : Bits := s.inp.bits s.bitpos (min longestElement (s.inputBits - s.bitpos))

/-- The kind that non-zero padding raises (R98, R102). -/
def PadKind.error : PadKind → ErrorKind
  | .interior => .formatPadding1
  | .final => .formatPadding2

/-- `n` padding bits of value `v` (R98). -/
def padding (k : PadKind) (n v : Nat) (s : State) : Res State := do
  let s ← skip n s
  if v = 0 then .ok s else raise (PadKind.error k) "non-zero padding" s

/-- The number of bits to the next byte boundary (R98). -/
def State.padBits (s : State) : Nat := (8 - s.bitpos % 8) % 8

/-- `alignToByte(kind)` (R98). -/
def alignToByte (k : PadKind) (s : State) : Res State := padding k s.padBits (s.inp.field s.bitpos s.padBits) s

/-- `OutAppend(b)` (20_memory.md R56). -/
def State.append (s : State) (b : Byte) : State := { s with out := s.out.push b }

/-- `OutAppend` of each byte in order (20_memory.md R56). -/
def State.appendAll (s : State) : List Byte → State
  | [] => s
  | b :: bs => (s.append b).appendAll bs

/-- The `m` input bytes from byte index `i` on, or nothing where one does not exist (20_memory.md R51). -/
def Memory.slice (mem : Memory) (i : Nat) : Nat → Option (List Byte)
  | 0 => some []
  | m + 1 => do
    let b ← mem.read i
    let bs ← mem.slice (i + 1) m
    return b :: bs

/-- `readBytes(m)`: the byte-aligned copy of `m` input bytes to the output (R99). -/
def readBytes (m : Nat) (s : State) : Res State :=
  if s.bitpos / 8 + m ≤ s.inp.size then
    match s.inp.slice (s.bitpos / 8) m with
    | some bs => .ok ((s.appendAll bs).advance (8 * m))
    | none => .error (.fault .addressAbsent)
  else raise .invalidArguments "read past end of input" s

/-- `skipBytes(m)` (R100). -/
def skipBytes (m : Nat) (s : State) : Res State :=
  if s.bitpos / 8 + m ≤ s.inp.size then .ok (s.advance (8 * m))
  else raise .invalidArguments "read past end of input" s

/-- `finalPadding()` (R102). -/
def finalPadding (s : State) : Res State := do
  let s ← alignToByte .final s
  if s.params.trailing = .reject ∧ s.bitpos < s.inputBits then raise .invalidArguments "trailing input" s
  else .ok s

/-! ### Output, window and dictionary (20_memory.md) -/

/-- POS: the number of bytes produced so far (10_state.md R36). -/
def State.pos (s : State) : Nat := s.out.size

/-- WINDOW_SIZE (00_scope.md R7). -/
def State.windowSize (s : State) : Nat := 2 ^ s.wbits

/-- MAX_BACKWARD (00_scope.md R7). -/
def State.maxBackward (s : State) : Nat := s.windowSize - 16

/-- `maxDist` (43_command_loop.md R178). -/
def State.maxDist (s : State) : Nat := min s.pos s.maxBackward

/-- Entry `j` of the physical ring buffer, as it follows from the output: the byte of the last WINDOW_SIZE ones whose
address is `j` modulo WINDOW_SIZE (20_memory.md R55). -/
def State.ringByte (s : State) (j : Nat) : Option Byte :=
  if j < s.windowSize ∧ j < s.pos then s.out.read (s.pos - 1 - (s.pos - 1 - j) % s.windowSize) else none

/-- `OutRead(d)` (20_memory.md R57). -/
def State.outRead (s : State) (d : Nat) : Option Byte :=
  if 1 ≤ d ∧ d ≤ s.maxDist then s.out.read (s.pos - d) else none

/-- `DICT_AVAILABLE` (44_dictionary_transforms.md R195). -/
def State.dictAvailable (s : State) : Bool := s.dict.isSome || s.params.builtinPresent

/-- Byte `i` of `DICTBYTES` (44_dictionary_transforms.md R195). -/
def State.dictByte (s : State) (i : Nat) : Option Byte :=
  match s.dict with
  | some d => d.read i
  | none => if s.params.builtinPresent && decide (i < Config.dictSize) then some (Config.builtinDict i) else none

/-- `DictRead(off, n)` (20_memory.md R59). -/
def State.dictRead (s : State) (off : Nat) : Nat → Option (List Byte)
  | 0 => some []
  | n + 1 => do
    let b ← s.dictByte off
    let bs ← s.dictRead (off + 1) n
    return b :: bs

/-- `copyBackward(d, n)`: each byte is appended before the next is read (43_command_loop.md R182). -/
def copyBackward (d : Nat) : Nat → State → Res State
  | 0, s => .ok s
  | n + 1, s =>
    match s.outRead d with
    | some b => copyBackward d n (s.append b)
    | none => .error (.fault .addressAbsent)

/-! ### The ends of meta-blocks and commands -/

/-- `endOfMetaBlock()` (42_metablock.md R140). -/
def endOfMetaBlock (s : State) : Res State :=
  if s.isLast then do
    let s ← finalPadding s
    return s.goto .done
  else .ok (s.goto .metaBlockHeader)

/-- `postInsert()` (43_command_loop.md R173). -/
def postInsert (s : State) : Res State :=
  if s.remaining = 0 then endOfMetaBlock s else .ok { s with cmdPhase := .distance }

/-- `endOfCommand()` (43_command_loop.md R184). -/
def endOfCommand (s : State) : Res State :=
  if s.remaining = 0 then endOfMetaBlock s else .ok { s with cmdPhase := .cmdBegin }

end Sys2Proof.Machine
end

