-- ==== Sys2Proof/Machine/Operands.lean ====
section
/-! DEFINITION. Every operand form: the prefix code in force for the next symbol of each alphabet, the contexts that choose
it (30_encoding.md R86 to R91), the bits a symbol takes, and the distances (R84, R85). -/

namespace Sys2Proof.Machine

/-! ### Literal contexts -/

/-- The output byte `d` positions back, 0 before the output holds so many (10_state.md R37). -/
def State.lastByte (s : State) (d : Nat) : Nat :=
  if d ≤ s.pos then
    match s.out.read (s.pos - d) with
    | some b => b.toNat
    | none => 0
  else 0

/-- `CTX(mode, p1, p2)` (30_encoding.md R86). -/
def contextId (m : CtxMode) (p1 p2 : Nat) : Nat :=
  match m with
  | .lsb6 => p1 &&& 0x3F
  | .msb6 => p1 >>> 2
  | .utf8 => lut0 p1 ||| lut1 p2
  | .signed => (lut2 p1 <<< 3) ||| lut2 p2

/-- The prefix code of the next literal, chosen by the literal block type and the last two bytes (30_encoding.md R90;
43_command_loop.md R172). -/
def State.literalCode (s : State) : Option PrefixCode := do
  let mode ← s.cmode[s.trackerL.btype]?
  let tree ← s.cmapL[64 * s.trackerL.btype + contextId mode (s.lastByte 1) (s.lastByte 2)]?
  s.htreeL[tree]?

/-- The prefix code of the next command (43_command_loop.md R164). -/
def State.commandCode (s : State) : Option PrefixCode := s.htreeI[s.trackerI.btype]?

/-- The prefix code of the next distance code, chosen by the distance block type and the command's distance context
(30_encoding.md R91; 43_command_loop.md R175). -/
def State.distanceCode (s : State) : Option PrefixCode := do
  let tree ← s.cmapD[4 * s.trackerD.btype + s.distCtx]?
  s.htreeD[tree]?

/-! ### The bits of a symbol -/

/-- Consumes the codeword that `sym` has in the code in force (41_prefix_codes.md R123). -/
def consume (code : Option PrefixCode) (sym : Nat) (s : State) : Res State :=
  match code with
  | none => .error (.fault .unsetField)
  | some T =>
    match codeword T sym with
    | none => .error (.fault .symbolNotInCode)
    | some (l, _) => skip l s

/-! ### Distances -/

/-- The distance of a short code against the ring, a signed number (30_encoding.md R84). -/
def shortDistance (r : DistRing) (code : Nat) : Int :=
  match code with
  | 0 => r.d0
  | 1 => r.d1
  | 2 => r.d2
  | 3 => r.d3
  | 4 => r.d0 - 1
  | 5 => r.d0 + 1
  | 6 => r.d0 - 2
  | 7 => r.d0 + 2
  | 8 => r.d0 - 3
  | 9 => r.d0 + 3
  | 10 => r.d1 - 1
  | 11 => r.d1 + 1
  | 12 => r.d1 - 2
  | 13 => r.d1 + 2
  | 14 => r.d1 - 3
  | _ => r.d1 + 3

/-- `ndistbits` of a long distance code (30_encoding.md R85). -/
def distanceBits (npostfix ndirect code : Nat) : Nat := 1 + ((code - ndirect - 16) >>> (npostfix + 1))

/-- The distance of a long code whose extra bits are `extra` (30_encoding.md R85). -/
def longDistance (npostfix ndirect code extra : Nat) : Nat :=
  let x := code - ndirect - 16
  let hcode := x >>> npostfix
  let lcode := x &&& ((1 <<< npostfix) - 1)
  let offset := ((2 + (hcode &&& 1)) <<< distanceBits npostfix ndirect code) - 4
  ((offset + extra) <<< npostfix) + lcode + ndirect + 1

/-- The size of the distance alphabet, DALPH (30_encoding.md R85; 00_scope.md R9). -/
def State.distanceAlphabet (s : State) : Nat := 16 + s.ndirect + (48 <<< s.npostfix)

/-- The ring after a distance is pushed (43_command_loop.md R179). -/
def DistRing.push (r : DistRing) (d : Nat) : DistRing := { d0 := d, d1 := r.d0, d2 := r.d1, d3 := r.d2 }

/-- NDBITS of a word length, 0 for the lengths without a bucket (44_dictionary_transforms.md R192). -/
def dictBits (len : Nat) : Nat := if len < 4 then 0 else ndbits.getD (len - 4) 0

/-- DOFFSET of a word length from 4 to 24 (44_dictionary_transforms.md R192). -/
def dictOffset (len : Nat) : Nat := doffset.getD (len - 4) 0

end Sys2Proof.Machine
end

