-- ==== Sys2Proof/Machine/Flags.lean ====
section
/-! DEFINITION. The flags. The block has no condition codes: its flags are the four meta-block header fields of 10_state.md
R27, and this file holds every write of them (42_metablock.md R132 to R136). -/

namespace Sys2Proof.Machine

/-- The header of an empty last meta-block: final padding, then Done (R132). -/
def lastEmptyHeader (s : State) : Res State := do
  let s ← skip 2 s
  let s ← finalPadding { s with isLast := true, isLastEmpty := true }
  return s.goto .done

/-- The header of a last meta-block that is not empty (R132). -/
def lastHeader (s : State) : Res State := do
  let s ← skip 2 s
  return { s with isLast := true, isLastEmpty := false }

/-- The header of a meta-block that is not last; ISLASTEMPTY is not read (R132). -/
def notLastHeader (s : State) : Res State := do
  let s ← skip 1 s
  return { s with isLast := false }

/-- MNIBBLES for a data meta-block of `n` nibbles (R133). -/
def dataNibbles (n : Nat) (s : State) : Res State := do
  let s ← skip 2 s
  return { s with isMetadata := false, work := { s.work with nibbles := n, acc := 0, index := 0 } }

/-- MNIBBLES = 3: a metadata meta-block (R133). -/
def metadataNibbles (s : State) : Res State := do
  let s ← skip 2 s
  return { s with isMetadata := true }.goto .metadata

/-- One nibble of MLEN - 1; the last one sets `S.mlen` (R134). -/
def lengthNibble (x : Nat) (s : State) : Res State := do
  let s ← skip 4 s
  let w := s.work
  if w.index + 1 = w.nibbles ∧ 4 < w.nibbles ∧ x = 0 then raise .formatExuberantNibble "invalid final nibble" s
  else
    let v := w.acc ||| (x <<< (4 * w.index))
    let s := { s with work := { w with acc := v, index := w.index + 1 } }
    if w.index + 1 = w.nibbles then .ok { s with mlen := v + 1 } else .ok s

/-- The dispatch at the end of the header of a data meta-block, with the two ring-buffer sites at the first of the stream
(R136, R158). -/
def dispatchBody (s : State) : Res State := do
  let s := { s with remaining := s.mlen }
  let s ← if s.pos = 0 then do
      let s ← allocate .ringBuffer1 .allocRingBuffer1 s
      allocate .ringBuffer2 .allocRingBuffer2 s
    else .ok s
  return s.goto (if s.isUncompressed then .uncompressedBody else .compressedSetup)

/-- ISUNCOMPRESSED, read in a meta-block that is not last, and the dispatch (R135, R136). -/
def uncompressedFlag (b : Bool) (s : State) : Res State := do
  let s ← skip 1 s
  dispatchBody { s with isUncompressed := b }

/-- A last meta-block has no ISUNCOMPRESSED bit: it is compressed (R135, R136). -/
def lastIsCompressed (s : State) : Res State := dispatchBody { s with isUncompressed := false }

end Sys2Proof.Machine
end

