-- ==== Sys2Proof/Machine/Commands.lean ====
section
/-! DEFINITION. The rows of literals and of commands: literal symbols, command cells, insert and copy length codes
(43_command_loop.md R164 to R173; 30_encoding.md R81 to R83, R91). -/

namespace Sys2Proof.Machine

/-- A literal: its byte is appended, and the last one of a command ends the insert phase (R172). -/
def literal (b : Byte) (s : State) : Res State := do
  let s ← consume s.literalCode b.toNat s
  let s := { s.append b with remaining := s.remaining - 1, insertLen := s.insertLen - 1 }
  if s.insertLen = 0 then postInsert s else .ok s

/-- An insert length code and its extra bits (30_encoding.md R82). -/
def insertLength (i : Nat) (s : State) : Res State := do
  let (x, s) ← readBits (insertExtra.getD i 0) s
  return { s with insertLen := insertBase.getD i 0 + x }

/-- A copy length code and its extra bits, and the distance context it gives (30_encoding.md R83, R91). -/
def copyLength (k : Nat) (s : State) : Res State := do
  let (x, s) ← readBits (copyExtra.getD k 0) s
  return { s with copyLen := copyBase.getD k 0 + x, distCtx := min k 3 }

/-- The insert length code of a command symbol (30_encoding.md R81). -/
def insertCodeOf (cell sym : Nat) : Nat := insertCodeBase.getD cell 0 + ((sym >>> 3) &&& 7)

/-- The copy length code of a command symbol (30_encoding.md R81). -/
def copyCodeOf (cell sym : Nat) : Nat := copyCodeBase.getD cell 0 + (sym &&& 7)

/-- A command symbol: its lengths, the overrun check, the next phase (R164 to R170). -/
def command (cell sym : Nat) (s : State) : Res State := do
  let s ← consume s.commandCode sym s
  let s ← insertLength (insertCodeOf cell sym) s
  let s ← copyLength (copyCodeOf cell sym) s
  let s := { s with implicitD0 := decide (cell ≤ 1) }
  if s.remaining < s.insertLen then raise .formatBlockLength1 "insert past meta-block end" s
  else if 0 < s.insertLen then .ok { s with cmdPhase := .insert }
  else postInsert s

/-! ### The rows -/

/-- LIT b (R172). -/
def elemLitB (b : Byte) (s : State) : Res State := literal b s
/-- The meaning of LIT b (R172). -/
def execLitB (b : Byte) (s : State) : Answer State := duringPhase .insert s (elemLitB b s)

/-- CMD cell 0 (R165). -/
def elemCmdCell0 (sym : Nat) (s : State) : Res State := command 0 sym s
/-- The meaning of CMD cell 0 (R165). -/
def execCmdCell0 (sym : Nat) (s : State) : Answer State := duringPhase .cmdBegin s (elemCmdCell0 sym s)

/-- CMD cell 1 (R165). -/
def elemCmdCell1 (sym : Nat) (s : State) : Res State := command 1 sym s
/-- The meaning of CMD cell 1 (R165). -/
def execCmdCell1 (sym : Nat) (s : State) : Answer State := duringPhase .cmdBegin s (elemCmdCell1 sym s)

/-- CMD cell 2 (R165). -/
def elemCmdCell2 (sym : Nat) (s : State) : Res State := command 2 sym s
/-- The meaning of CMD cell 2 (R165). -/
def execCmdCell2 (sym : Nat) (s : State) : Answer State := duringPhase .cmdBegin s (elemCmdCell2 sym s)

/-- CMD cell 3 (R165). -/
def elemCmdCell3 (sym : Nat) (s : State) : Res State := command 3 sym s
/-- The meaning of CMD cell 3 (R165). -/
def execCmdCell3 (sym : Nat) (s : State) : Answer State := duringPhase .cmdBegin s (elemCmdCell3 sym s)

/-- CMD cell 4 (R165). -/
def elemCmdCell4 (sym : Nat) (s : State) : Res State := command 4 sym s
/-- The meaning of CMD cell 4 (R165). -/
def execCmdCell4 (sym : Nat) (s : State) : Answer State := duringPhase .cmdBegin s (elemCmdCell4 sym s)

/-- CMD cell 5 (R165). -/
def elemCmdCell5 (sym : Nat) (s : State) : Res State := command 5 sym s
/-- The meaning of CMD cell 5 (R165). -/
def execCmdCell5 (sym : Nat) (s : State) : Answer State := duringPhase .cmdBegin s (elemCmdCell5 sym s)

/-- CMD cell 6 (R165). -/
def elemCmdCell6 (sym : Nat) (s : State) : Res State := command 6 sym s
/-- The meaning of CMD cell 6 (R165). -/
def execCmdCell6 (sym : Nat) (s : State) : Answer State := duringPhase .cmdBegin s (elemCmdCell6 sym s)

/-- CMD cell 7 (R165). -/
def elemCmdCell7 (sym : Nat) (s : State) : Res State := command 7 sym s
/-- The meaning of CMD cell 7 (R165). -/
def execCmdCell7 (sym : Nat) (s : State) : Answer State := duringPhase .cmdBegin s (elemCmdCell7 sym s)

/-- CMD cell 8 (R165). -/
def elemCmdCell8 (sym : Nat) (s : State) : Res State := command 8 sym s
/-- The meaning of CMD cell 8 (R165). -/
def execCmdCell8 (sym : Nat) (s : State) : Answer State := duringPhase .cmdBegin s (elemCmdCell8 sym s)

/-- CMD cell 9 (R165). -/
def elemCmdCell9 (sym : Nat) (s : State) : Res State := command 9 sym s
/-- The meaning of CMD cell 9 (R165). -/
def execCmdCell9 (sym : Nat) (s : State) : Answer State := duringPhase .cmdBegin s (elemCmdCell9 sym s)

/-- CMD cell 10 (R165). -/
def elemCmdCell10 (sym : Nat) (s : State) : Res State := command 10 sym s
/-- The meaning of CMD cell 10 (R165). -/
def execCmdCell10 (sym : Nat) (s : State) : Answer State := duringPhase .cmdBegin s (elemCmdCell10 sym s)

/-- INSCODE 0 (R82). -/
def elemInscode0 (s : State) : Res State := insertLength 0 s
/-- The meaning of INSCODE 0 (R82). -/
def execInscode0 (s : State) : Answer State := duringPhase .cmdBegin s (elemInscode0 s)

/-- INSCODE 1 (R82). -/
def elemInscode1 (s : State) : Res State := insertLength 1 s
/-- The meaning of INSCODE 1 (R82). -/
def execInscode1 (s : State) : Answer State := duringPhase .cmdBegin s (elemInscode1 s)

/-- INSCODE 2 (R82). -/
def elemInscode2 (s : State) : Res State := insertLength 2 s
/-- The meaning of INSCODE 2 (R82). -/
def execInscode2 (s : State) : Answer State := duringPhase .cmdBegin s (elemInscode2 s)

/-- INSCODE 3 (R82). -/
def elemInscode3 (s : State) : Res State := insertLength 3 s
/-- The meaning of INSCODE 3 (R82). -/
def execInscode3 (s : State) : Answer State := duringPhase .cmdBegin s (elemInscode3 s)

/-- INSCODE 4 (R82). -/
def elemInscode4 (s : State) : Res State := insertLength 4 s
/-- The meaning of INSCODE 4 (R82). -/
def execInscode4 (s : State) : Answer State := duringPhase .cmdBegin s (elemInscode4 s)

/-- INSCODE 5 (R82). -/
def elemInscode5 (s : State) : Res State := insertLength 5 s
/-- The meaning of INSCODE 5 (R82). -/
def execInscode5 (s : State) : Answer State := duringPhase .cmdBegin s (elemInscode5 s)

/-- INSCODE 6 (R82). -/
def elemInscode6 (s : State) : Res State := insertLength 6 s
/-- The meaning of INSCODE 6 (R82). -/
def execInscode6 (s : State) : Answer State := duringPhase .cmdBegin s (elemInscode6 s)

/-- INSCODE 7 (R82). -/
def elemInscode7 (s : State) : Res State := insertLength 7 s
/-- The meaning of INSCODE 7 (R82). -/
def execInscode7 (s : State) : Answer State := duringPhase .cmdBegin s (elemInscode7 s)

/-- INSCODE 8 (R82). -/
def elemInscode8 (s : State) : Res State := insertLength 8 s
/-- The meaning of INSCODE 8 (R82). -/
def execInscode8 (s : State) : Answer State := duringPhase .cmdBegin s (elemInscode8 s)

/-- INSCODE 9 (R82). -/
def elemInscode9 (s : State) : Res State := insertLength 9 s
/-- The meaning of INSCODE 9 (R82). -/
def execInscode9 (s : State) : Answer State := duringPhase .cmdBegin s (elemInscode9 s)

/-- INSCODE 10 (R82). -/
def elemInscode10 (s : State) : Res State := insertLength 10 s
/-- The meaning of INSCODE 10 (R82). -/
def execInscode10 (s : State) : Answer State := duringPhase .cmdBegin s (elemInscode10 s)

/-- INSCODE 11 (R82). -/
def elemInscode11 (s : State) : Res State := insertLength 11 s
/-- The meaning of INSCODE 11 (R82). -/
def execInscode11 (s : State) : Answer State := duringPhase .cmdBegin s (elemInscode11 s)

/-- INSCODE 12 (R82). -/
def elemInscode12 (s : State) : Res State := insertLength 12 s
/-- The meaning of INSCODE 12 (R82). -/
def execInscode12 (s : State) : Answer State := duringPhase .cmdBegin s (elemInscode12 s)

/-- INSCODE 13 (R82). -/
def elemInscode13 (s : State) : Res State := insertLength 13 s
/-- The meaning of INSCODE 13 (R82). -/
def execInscode13 (s : State) : Answer State := duringPhase .cmdBegin s (elemInscode13 s)

/-- INSCODE 14 (R82). -/
def elemInscode14 (s : State) : Res State := insertLength 14 s
/-- The meaning of INSCODE 14 (R82). -/
def execInscode14 (s : State) : Answer State := duringPhase .cmdBegin s (elemInscode14 s)

/-- INSCODE 15 (R82). -/
def elemInscode15 (s : State) : Res State := insertLength 15 s
/-- The meaning of INSCODE 15 (R82). -/
def execInscode15 (s : State) : Answer State := duringPhase .cmdBegin s (elemInscode15 s)

/-- INSCODE 16 (R82). -/
def elemInscode16 (s : State) : Res State := insertLength 16 s
/-- The meaning of INSCODE 16 (R82). -/
def execInscode16 (s : State) : Answer State := duringPhase .cmdBegin s (elemInscode16 s)

/-- INSCODE 17 (R82). -/
def elemInscode17 (s : State) : Res State := insertLength 17 s
/-- The meaning of INSCODE 17 (R82). -/
def execInscode17 (s : State) : Answer State := duringPhase .cmdBegin s (elemInscode17 s)

/-- INSCODE 18 (R82). -/
def elemInscode18 (s : State) : Res State := insertLength 18 s
/-- The meaning of INSCODE 18 (R82). -/
def execInscode18 (s : State) : Answer State := duringPhase .cmdBegin s (elemInscode18 s)

/-- INSCODE 19 (R82). -/
def elemInscode19 (s : State) : Res State := insertLength 19 s
/-- The meaning of INSCODE 19 (R82). -/
def execInscode19 (s : State) : Answer State := duringPhase .cmdBegin s (elemInscode19 s)

/-- INSCODE 20 (R82). -/
def elemInscode20 (s : State) : Res State := insertLength 20 s
/-- The meaning of INSCODE 20 (R82). -/
def execInscode20 (s : State) : Answer State := duringPhase .cmdBegin s (elemInscode20 s)

/-- INSCODE 21 (R82). -/
def elemInscode21 (s : State) : Res State := insertLength 21 s
/-- The meaning of INSCODE 21 (R82). -/
def execInscode21 (s : State) : Answer State := duringPhase .cmdBegin s (elemInscode21 s)

/-- INSCODE 22 (R82). -/
def elemInscode22 (s : State) : Res State := insertLength 22 s
/-- The meaning of INSCODE 22 (R82). -/
def execInscode22 (s : State) : Answer State := duringPhase .cmdBegin s (elemInscode22 s)

/-- INSCODE 23 (R82). -/
def elemInscode23 (s : State) : Res State := insertLength 23 s
/-- The meaning of INSCODE 23 (R82). -/
def execInscode23 (s : State) : Answer State := duringPhase .cmdBegin s (elemInscode23 s)

/-- COPYCODE 0 (R83). -/
def elemCopycode0 (s : State) : Res State := copyLength 0 s
/-- The meaning of COPYCODE 0 (R83). -/
def execCopycode0 (s : State) : Answer State := duringPhase .cmdBegin s (elemCopycode0 s)

/-- COPYCODE 1 (R83). -/
def elemCopycode1 (s : State) : Res State := copyLength 1 s
/-- The meaning of COPYCODE 1 (R83). -/
def execCopycode1 (s : State) : Answer State := duringPhase .cmdBegin s (elemCopycode1 s)

/-- COPYCODE 2 (R83). -/
def elemCopycode2 (s : State) : Res State := copyLength 2 s
/-- The meaning of COPYCODE 2 (R83). -/
def execCopycode2 (s : State) : Answer State := duringPhase .cmdBegin s (elemCopycode2 s)

/-- COPYCODE 3 (R83). -/
def elemCopycode3 (s : State) : Res State := copyLength 3 s
/-- The meaning of COPYCODE 3 (R83). -/
def execCopycode3 (s : State) : Answer State := duringPhase .cmdBegin s (elemCopycode3 s)

/-- COPYCODE 4 (R83). -/
def elemCopycode4 (s : State) : Res State := copyLength 4 s
/-- The meaning of COPYCODE 4 (R83). -/
def execCopycode4 (s : State) : Answer State := duringPhase .cmdBegin s (elemCopycode4 s)

/-- COPYCODE 5 (R83). -/
def elemCopycode5 (s : State) : Res State := copyLength 5 s
/-- The meaning of COPYCODE 5 (R83). -/
def execCopycode5 (s : State) : Answer State := duringPhase .cmdBegin s (elemCopycode5 s)

/-- COPYCODE 6 (R83). -/
def elemCopycode6 (s : State) : Res State := copyLength 6 s
/-- The meaning of COPYCODE 6 (R83). -/
def execCopycode6 (s : State) : Answer State := duringPhase .cmdBegin s (elemCopycode6 s)

/-- COPYCODE 7 (R83). -/
def elemCopycode7 (s : State) : Res State := copyLength 7 s
/-- The meaning of COPYCODE 7 (R83). -/
def execCopycode7 (s : State) : Answer State := duringPhase .cmdBegin s (elemCopycode7 s)

/-- COPYCODE 8 (R83). -/
def elemCopycode8 (s : State) : Res State := copyLength 8 s
/-- The meaning of COPYCODE 8 (R83). -/
def execCopycode8 (s : State) : Answer State := duringPhase .cmdBegin s (elemCopycode8 s)

/-- COPYCODE 9 (R83). -/
def elemCopycode9 (s : State) : Res State := copyLength 9 s
/-- The meaning of COPYCODE 9 (R83). -/
def execCopycode9 (s : State) : Answer State := duringPhase .cmdBegin s (elemCopycode9 s)

/-- COPYCODE 10 (R83). -/
def elemCopycode10 (s : State) : Res State := copyLength 10 s
/-- The meaning of COPYCODE 10 (R83). -/
def execCopycode10 (s : State) : Answer State := duringPhase .cmdBegin s (elemCopycode10 s)

/-- COPYCODE 11 (R83). -/
def elemCopycode11 (s : State) : Res State := copyLength 11 s
/-- The meaning of COPYCODE 11 (R83). -/
def execCopycode11 (s : State) : Answer State := duringPhase .cmdBegin s (elemCopycode11 s)

/-- COPYCODE 12 (R83). -/
def elemCopycode12 (s : State) : Res State := copyLength 12 s
/-- The meaning of COPYCODE 12 (R83). -/
def execCopycode12 (s : State) : Answer State := duringPhase .cmdBegin s (elemCopycode12 s)

/-- COPYCODE 13 (R83). -/
def elemCopycode13 (s : State) : Res State := copyLength 13 s
/-- The meaning of COPYCODE 13 (R83). -/
def execCopycode13 (s : State) : Answer State := duringPhase .cmdBegin s (elemCopycode13 s)

/-- COPYCODE 14 (R83). -/
def elemCopycode14 (s : State) : Res State := copyLength 14 s
/-- The meaning of COPYCODE 14 (R83). -/
def execCopycode14 (s : State) : Answer State := duringPhase .cmdBegin s (elemCopycode14 s)

/-- COPYCODE 15 (R83). -/
def elemCopycode15 (s : State) : Res State := copyLength 15 s
/-- The meaning of COPYCODE 15 (R83). -/
def execCopycode15 (s : State) : Answer State := duringPhase .cmdBegin s (elemCopycode15 s)

/-- COPYCODE 16 (R83). -/
def elemCopycode16 (s : State) : Res State := copyLength 16 s
/-- The meaning of COPYCODE 16 (R83). -/
def execCopycode16 (s : State) : Answer State := duringPhase .cmdBegin s (elemCopycode16 s)

/-- COPYCODE 17 (R83). -/
def elemCopycode17 (s : State) : Res State := copyLength 17 s
/-- The meaning of COPYCODE 17 (R83). -/
def execCopycode17 (s : State) : Answer State := duringPhase .cmdBegin s (elemCopycode17 s)

/-- COPYCODE 18 (R83). -/
def elemCopycode18 (s : State) : Res State := copyLength 18 s
/-- The meaning of COPYCODE 18 (R83). -/
def execCopycode18 (s : State) : Answer State := duringPhase .cmdBegin s (elemCopycode18 s)

/-- COPYCODE 19 (R83). -/
def elemCopycode19 (s : State) : Res State := copyLength 19 s
/-- The meaning of COPYCODE 19 (R83). -/
def execCopycode19 (s : State) : Answer State := duringPhase .cmdBegin s (elemCopycode19 s)

/-- COPYCODE 20 (R83). -/
def elemCopycode20 (s : State) : Res State := copyLength 20 s
/-- The meaning of COPYCODE 20 (R83). -/
def execCopycode20 (s : State) : Answer State := duringPhase .cmdBegin s (elemCopycode20 s)

/-- COPYCODE 21 (R83). -/
def elemCopycode21 (s : State) : Res State := copyLength 21 s
/-- The meaning of COPYCODE 21 (R83). -/
def execCopycode21 (s : State) : Answer State := duringPhase .cmdBegin s (elemCopycode21 s)

/-- COPYCODE 22 (R83). -/
def elemCopycode22 (s : State) : Res State := copyLength 22 s
/-- The meaning of COPYCODE 22 (R83). -/
def execCopycode22 (s : State) : Answer State := duringPhase .cmdBegin s (elemCopycode22 s)

/-- COPYCODE 23 (R83). -/
def elemCopycode23 (s : State) : Res State := copyLength 23 s
/-- The meaning of COPYCODE 23 (R83). -/
def execCopycode23 (s : State) : Answer State := duringPhase .cmdBegin s (elemCopycode23 s)

end Sys2Proof.Machine
end

