-- ==== Sys2Proof/Machine/Dictionary.lean ====
section
/-! DEFINITION. The rows of the static dictionary: word buckets, transform ops, transforms (44_dictionary_transforms.md
R190 to R206). -/

namespace Sys2Proof.Machine

/-! ### Case folding (R200 to R202) -/

/-- `toUpper(w, i)`: the word with the character at byte `i` folded, and the character's step. A change aimed past the end
is none (R200, R202). -/
def toUpper (w : List Byte) (i : Nat) : List Byte × Nat :=
  match w[i]? with
  | none => (w, 1)
  | some b =>
    if b < 0xC0 then (if 0x61 ≤ b ∧ b ≤ 0x7A then w.modify i (· ^^^ 0x20) else w, 1)
    else if b < 0xE0 then (w.modify (i + 1) (· ^^^ 0x20), 2)
    else (w.modify (i + 2) (· ^^^ 0x05), 3)

/-- `upperFirst(w)` (R201). -/
def upperFirst (w : List Byte) : List Byte := (toUpper w 0).1

/-- The walk of `upperAll` and `shiftAll`: `f` rewrites one character and gives its step, at least 1; `n` bounds the number
of characters (R201, R205). -/
def walkWord (f : List Byte → Nat → List Byte × Nat) : Nat → List Byte → Nat → List Byte
  | 0, w, _ => w
  | n + 1, w, i => if i < w.length then walkWord f n (f w i).1 (i + (f w i).2) else w

/-- `upperAll(w)` (R201). -/
def upperAll (w : List Byte) : List Byte := walkWord toUpper w.length w 0

/-! ### Codepoint shift (R203 to R205) -/

/-- The shift scalar of a parameter (R203). -/
def shiftScalar (param : BitVec 16) : Nat := (param.toNat &&& 0x7FFF) + (0x1000000 - (param.toNat &&& 0x8000))

/-- The top two bits of a continuation byte as they were, and six new low bits (R204). -/
def continuation (b : Byte) (v : Nat) : Byte := (b &&& 0xC0) ||| BitVec.ofNat 8 (v &&& 0x3F)

/-- `shift(w, i, scalar)`: the word with the codepoint at byte `i` shifted at its own width, and its step (R204). -/
def shiftAt (scalar : Nat) (w : List Byte) (i : Nat) : List Byte × Nat :=
  let r := w.length - i
  let at_ := fun j => w.getD (i + j) 0
  let low := fun j => (at_ j).toNat &&& 0x3F
  let b0 := at_ 0
  if b0 < 0x80 then (w.set i (BitVec.ofNat 8 ((scalar + b0.toNat) &&& 0x7F)), 1)
  else if b0 < 0xC0 then (w, 1)
  else if b0 < 0xE0 then
    if r < 2 then (w, 1)
    else
      let v := scalar + (low 1 ||| ((b0.toNat &&& 0x1F) <<< 6))
      ((w.set i (0xC0 ||| BitVec.ofNat 8 ((v >>> 6) &&& 0x1F))).set (i + 1) (continuation (at_ 1) v), 2)
  else if b0 < 0xF0 then
    if r < 3 then (w, r)
    else
      let v := scalar + (low 2 ||| (low 1 <<< 6) ||| ((b0.toNat &&& 0x0F) <<< 12))
      (((w.set i (0xE0 ||| BitVec.ofNat 8 ((v >>> 12) &&& 0x0F))).set (i + 1) (continuation (at_ 1) (v >>> 6))).set
        (i + 2) (continuation (at_ 2) v), 3)
  else if b0 < 0xF8 then
    if r < 4 then (w, r)
    else
      let v := scalar + (low 3 ||| (low 2 <<< 6) ||| (low 1 <<< 12) ||| ((b0.toNat &&& 0x07) <<< 18))
      ((((w.set i (0xF0 ||| BitVec.ofNat 8 ((v >>> 18) &&& 0x07))).set (i + 1) (continuation (at_ 1) (v >>> 12))).set
        (i + 2) (continuation (at_ 2) (v >>> 6))).set (i + 3) (continuation (at_ 3) v), 4)
  else (w, 1)

/-- `shiftFirst(w, param)` (R205). -/
def shiftFirst (w : List Byte) (param : BitVec 16) : List Byte :=
  if 0 < w.length then (shiftAt (shiftScalar param) w 0).1 else w

/-- `shiftAll(w, param)` (R205). -/
def shiftAll (w : List Byte) (param : BitVec 16) : List Byte := walkWord (shiftAt (shiftScalar param)) w.length w 0

/-! ### Transforms -/

/-- The effect of a transform op on a word (R197 to R199). -/
def applyOp (op : TransformOp) (w : List Byte) : List Byte :=
  match op with
  | .identity => w
  | .omitLast k => w.take (w.length - k)
  | .uppercaseFirst => upperFirst w
  | .uppercaseAll => upperAll w
  | .omitFirst k => w.drop k
  | .shiftFirst param => shiftFirst w param
  | .shiftAll param => shiftAll w param

/-- The bytes of a transform applied to a word (R197). -/
def Transform.apply (t : Transform) (w : List Byte) : List Byte := t.pre ++ applyOp t.op w ++ t.suf

/-- `applyTransform(word, tid)` for `tid` from 0 to 120 (R197, R206). -/
def applyTransform (w : List Byte) (tid : Nat) : Option (List Byte) := (transforms[tid]?).map fun t => t.apply w

/-- A transform op, on the word in the workspace (R197). -/
def wordOp (op : TransformOp) (s : State) : Res State :=
  .ok { s with work := { s.work with word := applyOp op s.work.word } }

/-- A transform, on the word in the workspace (R190, R197). -/
def wordTransform (tid : Nat) (s : State) : Res State :=
  match applyTransform s.work.word tid with
  | some bytes => .ok { s with work := { s.work with word := bytes } }
  | none => .error (.fault .noElement)

/-- A transform id of 121 or more (R194). -/
def reservedTransform (s : State) : Res State := raise .formatTransform "reserved transform code" s

/-- A bucket: the word and the transform that `wordId` selects in it (R190, R192, R193). -/
def selectWord (len : Nat) (s : State) : Res State :=
  let w := s.work
  match s.dictRead (dictOffset len + (w.wordId % 2 ^ dictBits len) * len) len with
  | some bytes => .ok { s with work := { w with tid := w.wordId >>> dictBits len, word := bytes } }
  | none => .error (.fault .addressAbsent)

/-! ### The rows -/

/-- TOP IDENTITY (R198). -/
def elemTopIdentity (s : State) : Res State := wordOp .identity s
/-- The meaning of TOP IDENTITY (R198). -/
def execTopIdentity (s : State) : Answer State := duringPhase .copy s (elemTopIdentity s)

/-- TOP OMIT_LAST_1 (R198). -/
def elemTopOmitLast1 (s : State) : Res State := wordOp (.omitLast 1) s
/-- The meaning of TOP OMIT_LAST_1 (R198). -/
def execTopOmitLast1 (s : State) : Answer State := duringPhase .copy s (elemTopOmitLast1 s)

/-- TOP OMIT_LAST_2 (R198). -/
def elemTopOmitLast2 (s : State) : Res State := wordOp (.omitLast 2) s
/-- The meaning of TOP OMIT_LAST_2 (R198). -/
def execTopOmitLast2 (s : State) : Answer State := duringPhase .copy s (elemTopOmitLast2 s)

/-- TOP OMIT_LAST_3 (R198). -/
def elemTopOmitLast3 (s : State) : Res State := wordOp (.omitLast 3) s
/-- The meaning of TOP OMIT_LAST_3 (R198). -/
def execTopOmitLast3 (s : State) : Answer State := duringPhase .copy s (elemTopOmitLast3 s)

/-- TOP OMIT_LAST_4 (R198). -/
def elemTopOmitLast4 (s : State) : Res State := wordOp (.omitLast 4) s
/-- The meaning of TOP OMIT_LAST_4 (R198). -/
def execTopOmitLast4 (s : State) : Answer State := duringPhase .copy s (elemTopOmitLast4 s)

/-- TOP OMIT_LAST_5 (R198). -/
def elemTopOmitLast5 (s : State) : Res State := wordOp (.omitLast 5) s
/-- The meaning of TOP OMIT_LAST_5 (R198). -/
def execTopOmitLast5 (s : State) : Answer State := duringPhase .copy s (elemTopOmitLast5 s)

/-- TOP OMIT_LAST_6 (R198). -/
def elemTopOmitLast6 (s : State) : Res State := wordOp (.omitLast 6) s
/-- The meaning of TOP OMIT_LAST_6 (R198). -/
def execTopOmitLast6 (s : State) : Answer State := duringPhase .copy s (elemTopOmitLast6 s)

/-- TOP OMIT_LAST_7 (R198). -/
def elemTopOmitLast7 (s : State) : Res State := wordOp (.omitLast 7) s
/-- The meaning of TOP OMIT_LAST_7 (R198). -/
def execTopOmitLast7 (s : State) : Answer State := duringPhase .copy s (elemTopOmitLast7 s)

/-- TOP OMIT_LAST_8 (R198). -/
def elemTopOmitLast8 (s : State) : Res State := wordOp (.omitLast 8) s
/-- The meaning of TOP OMIT_LAST_8 (R198). -/
def execTopOmitLast8 (s : State) : Answer State := duringPhase .copy s (elemTopOmitLast8 s)

/-- TOP OMIT_LAST_9 (R198). -/
def elemTopOmitLast9 (s : State) : Res State := wordOp (.omitLast 9) s
/-- The meaning of TOP OMIT_LAST_9 (R198). -/
def execTopOmitLast9 (s : State) : Answer State := duringPhase .copy s (elemTopOmitLast9 s)

/-- TOP UPPERCASE_FIRST (R198). -/
def elemTopUppercaseFirst (s : State) : Res State := wordOp .uppercaseFirst s
/-- The meaning of TOP UPPERCASE_FIRST (R198). -/
def execTopUppercaseFirst (s : State) : Answer State := duringPhase .copy s (elemTopUppercaseFirst s)

/-- TOP UPPERCASE_ALL (R198). -/
def elemTopUppercaseAll (s : State) : Res State := wordOp .uppercaseAll s
/-- The meaning of TOP UPPERCASE_ALL (R198). -/
def execTopUppercaseAll (s : State) : Answer State := duringPhase .copy s (elemTopUppercaseAll s)

/-- TOP OMIT_FIRST_1 (R198). -/
def elemTopOmitFirst1 (s : State) : Res State := wordOp (.omitFirst 1) s
/-- The meaning of TOP OMIT_FIRST_1 (R198). -/
def execTopOmitFirst1 (s : State) : Answer State := duringPhase .copy s (elemTopOmitFirst1 s)

/-- TOP OMIT_FIRST_2 (R198). -/
def elemTopOmitFirst2 (s : State) : Res State := wordOp (.omitFirst 2) s
/-- The meaning of TOP OMIT_FIRST_2 (R198). -/
def execTopOmitFirst2 (s : State) : Answer State := duringPhase .copy s (elemTopOmitFirst2 s)

/-- TOP OMIT_FIRST_3 (R198). -/
def elemTopOmitFirst3 (s : State) : Res State := wordOp (.omitFirst 3) s
/-- The meaning of TOP OMIT_FIRST_3 (R198). -/
def execTopOmitFirst3 (s : State) : Answer State := duringPhase .copy s (elemTopOmitFirst3 s)

/-- TOP OMIT_FIRST_4 (R198). -/
def elemTopOmitFirst4 (s : State) : Res State := wordOp (.omitFirst 4) s
/-- The meaning of TOP OMIT_FIRST_4 (R198). -/
def execTopOmitFirst4 (s : State) : Answer State := duringPhase .copy s (elemTopOmitFirst4 s)

/-- TOP OMIT_FIRST_5 (R198). -/
def elemTopOmitFirst5 (s : State) : Res State := wordOp (.omitFirst 5) s
/-- The meaning of TOP OMIT_FIRST_5 (R198). -/
def execTopOmitFirst5 (s : State) : Answer State := duringPhase .copy s (elemTopOmitFirst5 s)

/-- TOP OMIT_FIRST_6 (R198). -/
def elemTopOmitFirst6 (s : State) : Res State := wordOp (.omitFirst 6) s
/-- The meaning of TOP OMIT_FIRST_6 (R198). -/
def execTopOmitFirst6 (s : State) : Answer State := duringPhase .copy s (elemTopOmitFirst6 s)

/-- TOP OMIT_FIRST_7 (R198). -/
def elemTopOmitFirst7 (s : State) : Res State := wordOp (.omitFirst 7) s
/-- The meaning of TOP OMIT_FIRST_7 (R198). -/
def execTopOmitFirst7 (s : State) : Answer State := duringPhase .copy s (elemTopOmitFirst7 s)

/-- TOP OMIT_FIRST_8 (R198). -/
def elemTopOmitFirst8 (s : State) : Res State := wordOp (.omitFirst 8) s
/-- The meaning of TOP OMIT_FIRST_8 (R198). -/
def execTopOmitFirst8 (s : State) : Answer State := duringPhase .copy s (elemTopOmitFirst8 s)

/-- TOP OMIT_FIRST_9 (R198). -/
def elemTopOmitFirst9 (s : State) : Res State := wordOp (.omitFirst 9) s
/-- The meaning of TOP OMIT_FIRST_9 (R198). -/
def execTopOmitFirst9 (s : State) : Answer State := duringPhase .copy s (elemTopOmitFirst9 s)

/-- TOP SHIFT_FIRST (R198). -/
def elemTopShiftFirst (param : BitVec 16) (s : State) : Res State := wordOp (.shiftFirst param) s
/-- The meaning of TOP SHIFT_FIRST (R198). -/
def execTopShiftFirst (param : BitVec 16) (s : State) : Answer State := duringPhase .copy s (elemTopShiftFirst param s)

/-- TOP SHIFT_ALL (R198). -/
def elemTopShiftAll (param : BitVec 16) (s : State) : Res State := wordOp (.shiftAll param) s
/-- The meaning of TOP SHIFT_ALL (R198). -/
def execTopShiftAll (param : BitVec 16) (s : State) : Answer State := duringPhase .copy s (elemTopShiftAll param s)

/-- TRANSFORM reserved (R194). -/
def elemTransformReserved (_tid : Nat) (s : State) : Res State := reservedTransform s
/-- The meaning of TRANSFORM reserved (R194). -/
def execTransformReserved (tid : Nat) (s : State) : Answer State := duringPhase .copy s (elemTransformReserved tid s)

/-- TRANSFORM 0 (R206). -/
def elemTransform0 (s : State) : Res State := wordTransform 0 s
/-- The meaning of TRANSFORM 0 (R206). -/
def execTransform0 (s : State) : Answer State := duringPhase .copy s (elemTransform0 s)

/-- TRANSFORM 1 (R206). -/
def elemTransform1 (s : State) : Res State := wordTransform 1 s
/-- The meaning of TRANSFORM 1 (R206). -/
def execTransform1 (s : State) : Answer State := duringPhase .copy s (elemTransform1 s)

/-- TRANSFORM 2 (R206). -/
def elemTransform2 (s : State) : Res State := wordTransform 2 s
/-- The meaning of TRANSFORM 2 (R206). -/
def execTransform2 (s : State) : Answer State := duringPhase .copy s (elemTransform2 s)

/-- TRANSFORM 3 (R206). -/
def elemTransform3 (s : State) : Res State := wordTransform 3 s
/-- The meaning of TRANSFORM 3 (R206). -/
def execTransform3 (s : State) : Answer State := duringPhase .copy s (elemTransform3 s)

/-- TRANSFORM 4 (R206). -/
def elemTransform4 (s : State) : Res State := wordTransform 4 s
/-- The meaning of TRANSFORM 4 (R206). -/
def execTransform4 (s : State) : Answer State := duringPhase .copy s (elemTransform4 s)

/-- TRANSFORM 5 (R206). -/
def elemTransform5 (s : State) : Res State := wordTransform 5 s
/-- The meaning of TRANSFORM 5 (R206). -/
def execTransform5 (s : State) : Answer State := duringPhase .copy s (elemTransform5 s)

/-- TRANSFORM 6 (R206). -/
def elemTransform6 (s : State) : Res State := wordTransform 6 s
/-- The meaning of TRANSFORM 6 (R206). -/
def execTransform6 (s : State) : Answer State := duringPhase .copy s (elemTransform6 s)

/-- TRANSFORM 7 (R206). -/
def elemTransform7 (s : State) : Res State := wordTransform 7 s
/-- The meaning of TRANSFORM 7 (R206). -/
def execTransform7 (s : State) : Answer State := duringPhase .copy s (elemTransform7 s)

/-- TRANSFORM 8 (R206). -/
def elemTransform8 (s : State) : Res State := wordTransform 8 s
/-- The meaning of TRANSFORM 8 (R206). -/
def execTransform8 (s : State) : Answer State := duringPhase .copy s (elemTransform8 s)

/-- TRANSFORM 9 (R206). -/
def elemTransform9 (s : State) : Res State := wordTransform 9 s
/-- The meaning of TRANSFORM 9 (R206). -/
def execTransform9 (s : State) : Answer State := duringPhase .copy s (elemTransform9 s)

/-- TRANSFORM 10 (R206). -/
def elemTransform10 (s : State) : Res State := wordTransform 10 s
/-- The meaning of TRANSFORM 10 (R206). -/
def execTransform10 (s : State) : Answer State := duringPhase .copy s (elemTransform10 s)

/-- TRANSFORM 11 (R206). -/
def elemTransform11 (s : State) : Res State := wordTransform 11 s
/-- The meaning of TRANSFORM 11 (R206). -/
def execTransform11 (s : State) : Answer State := duringPhase .copy s (elemTransform11 s)

/-- TRANSFORM 12 (R206). -/
def elemTransform12 (s : State) : Res State := wordTransform 12 s
/-- The meaning of TRANSFORM 12 (R206). -/
def execTransform12 (s : State) : Answer State := duringPhase .copy s (elemTransform12 s)

/-- TRANSFORM 13 (R206). -/
def elemTransform13 (s : State) : Res State := wordTransform 13 s
/-- The meaning of TRANSFORM 13 (R206). -/
def execTransform13 (s : State) : Answer State := duringPhase .copy s (elemTransform13 s)

/-- TRANSFORM 14 (R206). -/
def elemTransform14 (s : State) : Res State := wordTransform 14 s
/-- The meaning of TRANSFORM 14 (R206). -/
def execTransform14 (s : State) : Answer State := duringPhase .copy s (elemTransform14 s)

/-- TRANSFORM 15 (R206). -/
def elemTransform15 (s : State) : Res State := wordTransform 15 s
/-- The meaning of TRANSFORM 15 (R206). -/
def execTransform15 (s : State) : Answer State := duringPhase .copy s (elemTransform15 s)

/-- TRANSFORM 16 (R206). -/
def elemTransform16 (s : State) : Res State := wordTransform 16 s
/-- The meaning of TRANSFORM 16 (R206). -/
def execTransform16 (s : State) : Answer State := duringPhase .copy s (elemTransform16 s)

/-- TRANSFORM 17 (R206). -/
def elemTransform17 (s : State) : Res State := wordTransform 17 s
/-- The meaning of TRANSFORM 17 (R206). -/
def execTransform17 (s : State) : Answer State := duringPhase .copy s (elemTransform17 s)

/-- TRANSFORM 18 (R206). -/
def elemTransform18 (s : State) : Res State := wordTransform 18 s
/-- The meaning of TRANSFORM 18 (R206). -/
def execTransform18 (s : State) : Answer State := duringPhase .copy s (elemTransform18 s)

/-- TRANSFORM 19 (R206). -/
def elemTransform19 (s : State) : Res State := wordTransform 19 s
/-- The meaning of TRANSFORM 19 (R206). -/
def execTransform19 (s : State) : Answer State := duringPhase .copy s (elemTransform19 s)

/-- TRANSFORM 20 (R206). -/
def elemTransform20 (s : State) : Res State := wordTransform 20 s
/-- The meaning of TRANSFORM 20 (R206). -/
def execTransform20 (s : State) : Answer State := duringPhase .copy s (elemTransform20 s)

/-- TRANSFORM 21 (R206). -/
def elemTransform21 (s : State) : Res State := wordTransform 21 s
/-- The meaning of TRANSFORM 21 (R206). -/
def execTransform21 (s : State) : Answer State := duringPhase .copy s (elemTransform21 s)

/-- TRANSFORM 22 (R206). -/
def elemTransform22 (s : State) : Res State := wordTransform 22 s
/-- The meaning of TRANSFORM 22 (R206). -/
def execTransform22 (s : State) : Answer State := duringPhase .copy s (elemTransform22 s)

/-- TRANSFORM 23 (R206). -/
def elemTransform23 (s : State) : Res State := wordTransform 23 s
/-- The meaning of TRANSFORM 23 (R206). -/
def execTransform23 (s : State) : Answer State := duringPhase .copy s (elemTransform23 s)

/-- TRANSFORM 24 (R206). -/
def elemTransform24 (s : State) : Res State := wordTransform 24 s
/-- The meaning of TRANSFORM 24 (R206). -/
def execTransform24 (s : State) : Answer State := duringPhase .copy s (elemTransform24 s)

/-- TRANSFORM 25 (R206). -/
def elemTransform25 (s : State) : Res State := wordTransform 25 s
/-- The meaning of TRANSFORM 25 (R206). -/
def execTransform25 (s : State) : Answer State := duringPhase .copy s (elemTransform25 s)

/-- TRANSFORM 26 (R206). -/
def elemTransform26 (s : State) : Res State := wordTransform 26 s
/-- The meaning of TRANSFORM 26 (R206). -/
def execTransform26 (s : State) : Answer State := duringPhase .copy s (elemTransform26 s)

/-- TRANSFORM 27 (R206). -/
def elemTransform27 (s : State) : Res State := wordTransform 27 s
/-- The meaning of TRANSFORM 27 (R206). -/
def execTransform27 (s : State) : Answer State := duringPhase .copy s (elemTransform27 s)

/-- TRANSFORM 28 (R206). -/
def elemTransform28 (s : State) : Res State := wordTransform 28 s
/-- The meaning of TRANSFORM 28 (R206). -/
def execTransform28 (s : State) : Answer State := duringPhase .copy s (elemTransform28 s)

/-- TRANSFORM 29 (R206). -/
def elemTransform29 (s : State) : Res State := wordTransform 29 s
/-- The meaning of TRANSFORM 29 (R206). -/
def execTransform29 (s : State) : Answer State := duringPhase .copy s (elemTransform29 s)

/-- TRANSFORM 30 (R206). -/
def elemTransform30 (s : State) : Res State := wordTransform 30 s
/-- The meaning of TRANSFORM 30 (R206). -/
def execTransform30 (s : State) : Answer State := duringPhase .copy s (elemTransform30 s)

/-- TRANSFORM 31 (R206). -/
def elemTransform31 (s : State) : Res State := wordTransform 31 s
/-- The meaning of TRANSFORM 31 (R206). -/
def execTransform31 (s : State) : Answer State := duringPhase .copy s (elemTransform31 s)

/-- TRANSFORM 32 (R206). -/
def elemTransform32 (s : State) : Res State := wordTransform 32 s
/-- The meaning of TRANSFORM 32 (R206). -/
def execTransform32 (s : State) : Answer State := duringPhase .copy s (elemTransform32 s)

/-- TRANSFORM 33 (R206). -/
def elemTransform33 (s : State) : Res State := wordTransform 33 s
/-- The meaning of TRANSFORM 33 (R206). -/
def execTransform33 (s : State) : Answer State := duringPhase .copy s (elemTransform33 s)

/-- TRANSFORM 34 (R206). -/
def elemTransform34 (s : State) : Res State := wordTransform 34 s
/-- The meaning of TRANSFORM 34 (R206). -/
def execTransform34 (s : State) : Answer State := duringPhase .copy s (elemTransform34 s)

/-- TRANSFORM 35 (R206). -/
def elemTransform35 (s : State) : Res State := wordTransform 35 s
/-- The meaning of TRANSFORM 35 (R206). -/
def execTransform35 (s : State) : Answer State := duringPhase .copy s (elemTransform35 s)

/-- TRANSFORM 36 (R206). -/
def elemTransform36 (s : State) : Res State := wordTransform 36 s
/-- The meaning of TRANSFORM 36 (R206). -/
def execTransform36 (s : State) : Answer State := duringPhase .copy s (elemTransform36 s)

/-- TRANSFORM 37 (R206). -/
def elemTransform37 (s : State) : Res State := wordTransform 37 s
/-- The meaning of TRANSFORM 37 (R206). -/
def execTransform37 (s : State) : Answer State := duringPhase .copy s (elemTransform37 s)

/-- TRANSFORM 38 (R206). -/
def elemTransform38 (s : State) : Res State := wordTransform 38 s
/-- The meaning of TRANSFORM 38 (R206). -/
def execTransform38 (s : State) : Answer State := duringPhase .copy s (elemTransform38 s)

/-- TRANSFORM 39 (R206). -/
def elemTransform39 (s : State) : Res State := wordTransform 39 s
/-- The meaning of TRANSFORM 39 (R206). -/
def execTransform39 (s : State) : Answer State := duringPhase .copy s (elemTransform39 s)

/-- TRANSFORM 40 (R206). -/
def elemTransform40 (s : State) : Res State := wordTransform 40 s
/-- The meaning of TRANSFORM 40 (R206). -/
def execTransform40 (s : State) : Answer State := duringPhase .copy s (elemTransform40 s)

/-- TRANSFORM 41 (R206). -/
def elemTransform41 (s : State) : Res State := wordTransform 41 s
/-- The meaning of TRANSFORM 41 (R206). -/
def execTransform41 (s : State) : Answer State := duringPhase .copy s (elemTransform41 s)

/-- TRANSFORM 42 (R206). -/
def elemTransform42 (s : State) : Res State := wordTransform 42 s
/-- The meaning of TRANSFORM 42 (R206). -/
def execTransform42 (s : State) : Answer State := duringPhase .copy s (elemTransform42 s)

/-- TRANSFORM 43 (R206). -/
def elemTransform43 (s : State) : Res State := wordTransform 43 s
/-- The meaning of TRANSFORM 43 (R206). -/
def execTransform43 (s : State) : Answer State := duringPhase .copy s (elemTransform43 s)

/-- TRANSFORM 44 (R206). -/
def elemTransform44 (s : State) : Res State := wordTransform 44 s
/-- The meaning of TRANSFORM 44 (R206). -/
def execTransform44 (s : State) : Answer State := duringPhase .copy s (elemTransform44 s)

/-- TRANSFORM 45 (R206). -/
def elemTransform45 (s : State) : Res State := wordTransform 45 s
/-- The meaning of TRANSFORM 45 (R206). -/
def execTransform45 (s : State) : Answer State := duringPhase .copy s (elemTransform45 s)

/-- TRANSFORM 46 (R206). -/
def elemTransform46 (s : State) : Res State := wordTransform 46 s
/-- The meaning of TRANSFORM 46 (R206). -/
def execTransform46 (s : State) : Answer State := duringPhase .copy s (elemTransform46 s)

/-- TRANSFORM 47 (R206). -/
def elemTransform47 (s : State) : Res State := wordTransform 47 s
/-- The meaning of TRANSFORM 47 (R206). -/
def execTransform47 (s : State) : Answer State := duringPhase .copy s (elemTransform47 s)

/-- TRANSFORM 48 (R206). -/
def elemTransform48 (s : State) : Res State := wordTransform 48 s
/-- The meaning of TRANSFORM 48 (R206). -/
def execTransform48 (s : State) : Answer State := duringPhase .copy s (elemTransform48 s)

/-- TRANSFORM 49 (R206). -/
def elemTransform49 (s : State) : Res State := wordTransform 49 s
/-- The meaning of TRANSFORM 49 (R206). -/
def execTransform49 (s : State) : Answer State := duringPhase .copy s (elemTransform49 s)

/-- TRANSFORM 50 (R206). -/
def elemTransform50 (s : State) : Res State := wordTransform 50 s
/-- The meaning of TRANSFORM 50 (R206). -/
def execTransform50 (s : State) : Answer State := duringPhase .copy s (elemTransform50 s)

/-- TRANSFORM 51 (R206). -/
def elemTransform51 (s : State) : Res State := wordTransform 51 s
/-- The meaning of TRANSFORM 51 (R206). -/
def execTransform51 (s : State) : Answer State := duringPhase .copy s (elemTransform51 s)

/-- TRANSFORM 52 (R206). -/
def elemTransform52 (s : State) : Res State := wordTransform 52 s
/-- The meaning of TRANSFORM 52 (R206). -/
def execTransform52 (s : State) : Answer State := duringPhase .copy s (elemTransform52 s)

/-- TRANSFORM 53 (R206). -/
def elemTransform53 (s : State) : Res State := wordTransform 53 s
/-- The meaning of TRANSFORM 53 (R206). -/
def execTransform53 (s : State) : Answer State := duringPhase .copy s (elemTransform53 s)

/-- TRANSFORM 54 (R206). -/
def elemTransform54 (s : State) : Res State := wordTransform 54 s
/-- The meaning of TRANSFORM 54 (R206). -/
def execTransform54 (s : State) : Answer State := duringPhase .copy s (elemTransform54 s)

/-- TRANSFORM 55 (R206). -/
def elemTransform55 (s : State) : Res State := wordTransform 55 s
/-- The meaning of TRANSFORM 55 (R206). -/
def execTransform55 (s : State) : Answer State := duringPhase .copy s (elemTransform55 s)

/-- TRANSFORM 56 (R206). -/
def elemTransform56 (s : State) : Res State := wordTransform 56 s
/-- The meaning of TRANSFORM 56 (R206). -/
def execTransform56 (s : State) : Answer State := duringPhase .copy s (elemTransform56 s)

/-- TRANSFORM 57 (R206). -/
def elemTransform57 (s : State) : Res State := wordTransform 57 s
/-- The meaning of TRANSFORM 57 (R206). -/
def execTransform57 (s : State) : Answer State := duringPhase .copy s (elemTransform57 s)

/-- TRANSFORM 58 (R206). -/
def elemTransform58 (s : State) : Res State := wordTransform 58 s
/-- The meaning of TRANSFORM 58 (R206). -/
def execTransform58 (s : State) : Answer State := duringPhase .copy s (elemTransform58 s)

/-- TRANSFORM 59 (R206). -/
def elemTransform59 (s : State) : Res State := wordTransform 59 s
/-- The meaning of TRANSFORM 59 (R206). -/
def execTransform59 (s : State) : Answer State := duringPhase .copy s (elemTransform59 s)

/-- TRANSFORM 60 (R206). -/
def elemTransform60 (s : State) : Res State := wordTransform 60 s
/-- The meaning of TRANSFORM 60 (R206). -/
def execTransform60 (s : State) : Answer State := duringPhase .copy s (elemTransform60 s)

/-- TRANSFORM 61 (R206). -/
def elemTransform61 (s : State) : Res State := wordTransform 61 s
/-- The meaning of TRANSFORM 61 (R206). -/
def execTransform61 (s : State) : Answer State := duringPhase .copy s (elemTransform61 s)

/-- TRANSFORM 62 (R206). -/
def elemTransform62 (s : State) : Res State := wordTransform 62 s
/-- The meaning of TRANSFORM 62 (R206). -/
def execTransform62 (s : State) : Answer State := duringPhase .copy s (elemTransform62 s)

/-- TRANSFORM 63 (R206). -/
def elemTransform63 (s : State) : Res State := wordTransform 63 s
/-- The meaning of TRANSFORM 63 (R206). -/
def execTransform63 (s : State) : Answer State := duringPhase .copy s (elemTransform63 s)

/-- TRANSFORM 64 (R206). -/
def elemTransform64 (s : State) : Res State := wordTransform 64 s
/-- The meaning of TRANSFORM 64 (R206). -/
def execTransform64 (s : State) : Answer State := duringPhase .copy s (elemTransform64 s)

/-- TRANSFORM 65 (R206). -/
def elemTransform65 (s : State) : Res State := wordTransform 65 s
/-- The meaning of TRANSFORM 65 (R206). -/
def execTransform65 (s : State) : Answer State := duringPhase .copy s (elemTransform65 s)

/-- TRANSFORM 66 (R206). -/
def elemTransform66 (s : State) : Res State := wordTransform 66 s
/-- The meaning of TRANSFORM 66 (R206). -/
def execTransform66 (s : State) : Answer State := duringPhase .copy s (elemTransform66 s)

/-- TRANSFORM 67 (R206). -/
def elemTransform67 (s : State) : Res State := wordTransform 67 s
/-- The meaning of TRANSFORM 67 (R206). -/
def execTransform67 (s : State) : Answer State := duringPhase .copy s (elemTransform67 s)

/-- TRANSFORM 68 (R206). -/
def elemTransform68 (s : State) : Res State := wordTransform 68 s
/-- The meaning of TRANSFORM 68 (R206). -/
def execTransform68 (s : State) : Answer State := duringPhase .copy s (elemTransform68 s)

/-- TRANSFORM 69 (R206). -/
def elemTransform69 (s : State) : Res State := wordTransform 69 s
/-- The meaning of TRANSFORM 69 (R206). -/
def execTransform69 (s : State) : Answer State := duringPhase .copy s (elemTransform69 s)

/-- TRANSFORM 70 (R206). -/
def elemTransform70 (s : State) : Res State := wordTransform 70 s
/-- The meaning of TRANSFORM 70 (R206). -/
def execTransform70 (s : State) : Answer State := duringPhase .copy s (elemTransform70 s)

/-- TRANSFORM 71 (R206). -/
def elemTransform71 (s : State) : Res State := wordTransform 71 s
/-- The meaning of TRANSFORM 71 (R206). -/
def execTransform71 (s : State) : Answer State := duringPhase .copy s (elemTransform71 s)

/-- TRANSFORM 72 (R206). -/
def elemTransform72 (s : State) : Res State := wordTransform 72 s
/-- The meaning of TRANSFORM 72 (R206). -/
def execTransform72 (s : State) : Answer State := duringPhase .copy s (elemTransform72 s)

/-- TRANSFORM 73 (R206). -/
def elemTransform73 (s : State) : Res State := wordTransform 73 s
/-- The meaning of TRANSFORM 73 (R206). -/
def execTransform73 (s : State) : Answer State := duringPhase .copy s (elemTransform73 s)

/-- TRANSFORM 74 (R206). -/
def elemTransform74 (s : State) : Res State := wordTransform 74 s
/-- The meaning of TRANSFORM 74 (R206). -/
def execTransform74 (s : State) : Answer State := duringPhase .copy s (elemTransform74 s)

/-- TRANSFORM 75 (R206). -/
def elemTransform75 (s : State) : Res State := wordTransform 75 s
/-- The meaning of TRANSFORM 75 (R206). -/
def execTransform75 (s : State) : Answer State := duringPhase .copy s (elemTransform75 s)

/-- TRANSFORM 76 (R206). -/
def elemTransform76 (s : State) : Res State := wordTransform 76 s
/-- The meaning of TRANSFORM 76 (R206). -/
def execTransform76 (s : State) : Answer State := duringPhase .copy s (elemTransform76 s)

/-- TRANSFORM 77 (R206). -/
def elemTransform77 (s : State) : Res State := wordTransform 77 s
/-- The meaning of TRANSFORM 77 (R206). -/
def execTransform77 (s : State) : Answer State := duringPhase .copy s (elemTransform77 s)

/-- TRANSFORM 78 (R206). -/
def elemTransform78 (s : State) : Res State := wordTransform 78 s
/-- The meaning of TRANSFORM 78 (R206). -/
def execTransform78 (s : State) : Answer State := duringPhase .copy s (elemTransform78 s)

/-- TRANSFORM 79 (R206). -/
def elemTransform79 (s : State) : Res State := wordTransform 79 s
/-- The meaning of TRANSFORM 79 (R206). -/
def execTransform79 (s : State) : Answer State := duringPhase .copy s (elemTransform79 s)

/-- TRANSFORM 80 (R206). -/
def elemTransform80 (s : State) : Res State := wordTransform 80 s
/-- The meaning of TRANSFORM 80 (R206). -/
def execTransform80 (s : State) : Answer State := duringPhase .copy s (elemTransform80 s)

/-- TRANSFORM 81 (R206). -/
def elemTransform81 (s : State) : Res State := wordTransform 81 s
/-- The meaning of TRANSFORM 81 (R206). -/
def execTransform81 (s : State) : Answer State := duringPhase .copy s (elemTransform81 s)

/-- TRANSFORM 82 (R206). -/
def elemTransform82 (s : State) : Res State := wordTransform 82 s
/-- The meaning of TRANSFORM 82 (R206). -/
def execTransform82 (s : State) : Answer State := duringPhase .copy s (elemTransform82 s)

/-- TRANSFORM 83 (R206). -/
def elemTransform83 (s : State) : Res State := wordTransform 83 s
/-- The meaning of TRANSFORM 83 (R206). -/
def execTransform83 (s : State) : Answer State := duringPhase .copy s (elemTransform83 s)

/-- TRANSFORM 84 (R206). -/
def elemTransform84 (s : State) : Res State := wordTransform 84 s
/-- The meaning of TRANSFORM 84 (R206). -/
def execTransform84 (s : State) : Answer State := duringPhase .copy s (elemTransform84 s)

/-- TRANSFORM 85 (R206). -/
def elemTransform85 (s : State) : Res State := wordTransform 85 s
/-- The meaning of TRANSFORM 85 (R206). -/
def execTransform85 (s : State) : Answer State := duringPhase .copy s (elemTransform85 s)

/-- TRANSFORM 86 (R206). -/
def elemTransform86 (s : State) : Res State := wordTransform 86 s
/-- The meaning of TRANSFORM 86 (R206). -/
def execTransform86 (s : State) : Answer State := duringPhase .copy s (elemTransform86 s)

/-- TRANSFORM 87 (R206). -/
def elemTransform87 (s : State) : Res State := wordTransform 87 s
/-- The meaning of TRANSFORM 87 (R206). -/
def execTransform87 (s : State) : Answer State := duringPhase .copy s (elemTransform87 s)

/-- TRANSFORM 88 (R206). -/
def elemTransform88 (s : State) : Res State := wordTransform 88 s
/-- The meaning of TRANSFORM 88 (R206). -/
def execTransform88 (s : State) : Answer State := duringPhase .copy s (elemTransform88 s)

/-- TRANSFORM 89 (R206). -/
def elemTransform89 (s : State) : Res State := wordTransform 89 s
/-- The meaning of TRANSFORM 89 (R206). -/
def execTransform89 (s : State) : Answer State := duringPhase .copy s (elemTransform89 s)

/-- TRANSFORM 90 (R206). -/
def elemTransform90 (s : State) : Res State := wordTransform 90 s
/-- The meaning of TRANSFORM 90 (R206). -/
def execTransform90 (s : State) : Answer State := duringPhase .copy s (elemTransform90 s)

/-- TRANSFORM 91 (R206). -/
def elemTransform91 (s : State) : Res State := wordTransform 91 s
/-- The meaning of TRANSFORM 91 (R206). -/
def execTransform91 (s : State) : Answer State := duringPhase .copy s (elemTransform91 s)

/-- TRANSFORM 92 (R206). -/
def elemTransform92 (s : State) : Res State := wordTransform 92 s
/-- The meaning of TRANSFORM 92 (R206). -/
def execTransform92 (s : State) : Answer State := duringPhase .copy s (elemTransform92 s)

/-- TRANSFORM 93 (R206). -/
def elemTransform93 (s : State) : Res State := wordTransform 93 s
/-- The meaning of TRANSFORM 93 (R206). -/
def execTransform93 (s : State) : Answer State := duringPhase .copy s (elemTransform93 s)

/-- TRANSFORM 94 (R206). -/
def elemTransform94 (s : State) : Res State := wordTransform 94 s
/-- The meaning of TRANSFORM 94 (R206). -/
def execTransform94 (s : State) : Answer State := duringPhase .copy s (elemTransform94 s)

/-- TRANSFORM 95 (R206). -/
def elemTransform95 (s : State) : Res State := wordTransform 95 s
/-- The meaning of TRANSFORM 95 (R206). -/
def execTransform95 (s : State) : Answer State := duringPhase .copy s (elemTransform95 s)

/-- TRANSFORM 96 (R206). -/
def elemTransform96 (s : State) : Res State := wordTransform 96 s
/-- The meaning of TRANSFORM 96 (R206). -/
def execTransform96 (s : State) : Answer State := duringPhase .copy s (elemTransform96 s)

/-- TRANSFORM 97 (R206). -/
def elemTransform97 (s : State) : Res State := wordTransform 97 s
/-- The meaning of TRANSFORM 97 (R206). -/
def execTransform97 (s : State) : Answer State := duringPhase .copy s (elemTransform97 s)

/-- TRANSFORM 98 (R206). -/
def elemTransform98 (s : State) : Res State := wordTransform 98 s
/-- The meaning of TRANSFORM 98 (R206). -/
def execTransform98 (s : State) : Answer State := duringPhase .copy s (elemTransform98 s)

/-- TRANSFORM 99 (R206). -/
def elemTransform99 (s : State) : Res State := wordTransform 99 s
/-- The meaning of TRANSFORM 99 (R206). -/
def execTransform99 (s : State) : Answer State := duringPhase .copy s (elemTransform99 s)

/-- TRANSFORM 100 (R206). -/
def elemTransform100 (s : State) : Res State := wordTransform 100 s
/-- The meaning of TRANSFORM 100 (R206). -/
def execTransform100 (s : State) : Answer State := duringPhase .copy s (elemTransform100 s)

/-- TRANSFORM 101 (R206). -/
def elemTransform101 (s : State) : Res State := wordTransform 101 s
/-- The meaning of TRANSFORM 101 (R206). -/
def execTransform101 (s : State) : Answer State := duringPhase .copy s (elemTransform101 s)

/-- TRANSFORM 102 (R206). -/
def elemTransform102 (s : State) : Res State := wordTransform 102 s
/-- The meaning of TRANSFORM 102 (R206). -/
def execTransform102 (s : State) : Answer State := duringPhase .copy s (elemTransform102 s)

/-- TRANSFORM 103 (R206). -/
def elemTransform103 (s : State) : Res State := wordTransform 103 s
/-- The meaning of TRANSFORM 103 (R206). -/
def execTransform103 (s : State) : Answer State := duringPhase .copy s (elemTransform103 s)

/-- TRANSFORM 104 (R206). -/
def elemTransform104 (s : State) : Res State := wordTransform 104 s
/-- The meaning of TRANSFORM 104 (R206). -/
def execTransform104 (s : State) : Answer State := duringPhase .copy s (elemTransform104 s)

/-- TRANSFORM 105 (R206). -/
def elemTransform105 (s : State) : Res State := wordTransform 105 s
/-- The meaning of TRANSFORM 105 (R206). -/
def execTransform105 (s : State) : Answer State := duringPhase .copy s (elemTransform105 s)

/-- TRANSFORM 106 (R206). -/
def elemTransform106 (s : State) : Res State := wordTransform 106 s
/-- The meaning of TRANSFORM 106 (R206). -/
def execTransform106 (s : State) : Answer State := duringPhase .copy s (elemTransform106 s)

/-- TRANSFORM 107 (R206). -/
def elemTransform107 (s : State) : Res State := wordTransform 107 s
/-- The meaning of TRANSFORM 107 (R206). -/
def execTransform107 (s : State) : Answer State := duringPhase .copy s (elemTransform107 s)

/-- TRANSFORM 108 (R206). -/
def elemTransform108 (s : State) : Res State := wordTransform 108 s
/-- The meaning of TRANSFORM 108 (R206). -/
def execTransform108 (s : State) : Answer State := duringPhase .copy s (elemTransform108 s)

/-- TRANSFORM 109 (R206). -/
def elemTransform109 (s : State) : Res State := wordTransform 109 s
/-- The meaning of TRANSFORM 109 (R206). -/
def execTransform109 (s : State) : Answer State := duringPhase .copy s (elemTransform109 s)

/-- TRANSFORM 110 (R206). -/
def elemTransform110 (s : State) : Res State := wordTransform 110 s
/-- The meaning of TRANSFORM 110 (R206). -/
def execTransform110 (s : State) : Answer State := duringPhase .copy s (elemTransform110 s)

/-- TRANSFORM 111 (R206). -/
def elemTransform111 (s : State) : Res State := wordTransform 111 s
/-- The meaning of TRANSFORM 111 (R206). -/
def execTransform111 (s : State) : Answer State := duringPhase .copy s (elemTransform111 s)

/-- TRANSFORM 112 (R206). -/
def elemTransform112 (s : State) : Res State := wordTransform 112 s
/-- The meaning of TRANSFORM 112 (R206). -/
def execTransform112 (s : State) : Answer State := duringPhase .copy s (elemTransform112 s)

/-- TRANSFORM 113 (R206). -/
def elemTransform113 (s : State) : Res State := wordTransform 113 s
/-- The meaning of TRANSFORM 113 (R206). -/
def execTransform113 (s : State) : Answer State := duringPhase .copy s (elemTransform113 s)

/-- TRANSFORM 114 (R206). -/
def elemTransform114 (s : State) : Res State := wordTransform 114 s
/-- The meaning of TRANSFORM 114 (R206). -/
def execTransform114 (s : State) : Answer State := duringPhase .copy s (elemTransform114 s)

/-- TRANSFORM 115 (R206). -/
def elemTransform115 (s : State) : Res State := wordTransform 115 s
/-- The meaning of TRANSFORM 115 (R206). -/
def execTransform115 (s : State) : Answer State := duringPhase .copy s (elemTransform115 s)

/-- TRANSFORM 116 (R206). -/
def elemTransform116 (s : State) : Res State := wordTransform 116 s
/-- The meaning of TRANSFORM 116 (R206). -/
def execTransform116 (s : State) : Answer State := duringPhase .copy s (elemTransform116 s)

/-- TRANSFORM 117 (R206). -/
def elemTransform117 (s : State) : Res State := wordTransform 117 s
/-- The meaning of TRANSFORM 117 (R206). -/
def execTransform117 (s : State) : Answer State := duringPhase .copy s (elemTransform117 s)

/-- TRANSFORM 118 (R206). -/
def elemTransform118 (s : State) : Res State := wordTransform 118 s
/-- The meaning of TRANSFORM 118 (R206). -/
def execTransform118 (s : State) : Answer State := duringPhase .copy s (elemTransform118 s)

/-- TRANSFORM 119 (R206). -/
def elemTransform119 (s : State) : Res State := wordTransform 119 s
/-- The meaning of TRANSFORM 119 (R206). -/
def execTransform119 (s : State) : Answer State := duringPhase .copy s (elemTransform119 s)

/-- TRANSFORM 120 (R206). -/
def elemTransform120 (s : State) : Res State := wordTransform 120 s
/-- The meaning of TRANSFORM 120 (R206). -/
def execTransform120 (s : State) : Answer State := duringPhase .copy s (elemTransform120 s)

/-- DICTBUCKET 4 (R192). -/
def elemDictbucket4 (s : State) : Res State := selectWord 4 s
/-- The meaning of DICTBUCKET 4 (R192). -/
def execDictbucket4 (s : State) : Answer State := duringPhase .copy s (elemDictbucket4 s)

/-- DICTBUCKET 5 (R192). -/
def elemDictbucket5 (s : State) : Res State := selectWord 5 s
/-- The meaning of DICTBUCKET 5 (R192). -/
def execDictbucket5 (s : State) : Answer State := duringPhase .copy s (elemDictbucket5 s)

/-- DICTBUCKET 6 (R192). -/
def elemDictbucket6 (s : State) : Res State := selectWord 6 s
/-- The meaning of DICTBUCKET 6 (R192). -/
def execDictbucket6 (s : State) : Answer State := duringPhase .copy s (elemDictbucket6 s)

/-- DICTBUCKET 7 (R192). -/
def elemDictbucket7 (s : State) : Res State := selectWord 7 s
/-- The meaning of DICTBUCKET 7 (R192). -/
def execDictbucket7 (s : State) : Answer State := duringPhase .copy s (elemDictbucket7 s)

/-- DICTBUCKET 8 (R192). -/
def elemDictbucket8 (s : State) : Res State := selectWord 8 s
/-- The meaning of DICTBUCKET 8 (R192). -/
def execDictbucket8 (s : State) : Answer State := duringPhase .copy s (elemDictbucket8 s)

/-- DICTBUCKET 9 (R192). -/
def elemDictbucket9 (s : State) : Res State := selectWord 9 s
/-- The meaning of DICTBUCKET 9 (R192). -/
def execDictbucket9 (s : State) : Answer State := duringPhase .copy s (elemDictbucket9 s)

/-- DICTBUCKET 10 (R192). -/
def elemDictbucket10 (s : State) : Res State := selectWord 10 s
/-- The meaning of DICTBUCKET 10 (R192). -/
def execDictbucket10 (s : State) : Answer State := duringPhase .copy s (elemDictbucket10 s)

/-- DICTBUCKET 11 (R192). -/
def elemDictbucket11 (s : State) : Res State := selectWord 11 s
/-- The meaning of DICTBUCKET 11 (R192). -/
def execDictbucket11 (s : State) : Answer State := duringPhase .copy s (elemDictbucket11 s)

/-- DICTBUCKET 12 (R192). -/
def elemDictbucket12 (s : State) : Res State := selectWord 12 s
/-- The meaning of DICTBUCKET 12 (R192). -/
def execDictbucket12 (s : State) : Answer State := duringPhase .copy s (elemDictbucket12 s)

/-- DICTBUCKET 13 (R192). -/
def elemDictbucket13 (s : State) : Res State := selectWord 13 s
/-- The meaning of DICTBUCKET 13 (R192). -/
def execDictbucket13 (s : State) : Answer State := duringPhase .copy s (elemDictbucket13 s)

/-- DICTBUCKET 14 (R192). -/
def elemDictbucket14 (s : State) : Res State := selectWord 14 s
/-- The meaning of DICTBUCKET 14 (R192). -/
def execDictbucket14 (s : State) : Answer State := duringPhase .copy s (elemDictbucket14 s)

/-- DICTBUCKET 15 (R192). -/
def elemDictbucket15 (s : State) : Res State := selectWord 15 s
/-- The meaning of DICTBUCKET 15 (R192). -/
def execDictbucket15 (s : State) : Answer State := duringPhase .copy s (elemDictbucket15 s)

/-- DICTBUCKET 16 (R192). -/
def elemDictbucket16 (s : State) : Res State := selectWord 16 s
/-- The meaning of DICTBUCKET 16 (R192). -/
def execDictbucket16 (s : State) : Answer State := duringPhase .copy s (elemDictbucket16 s)

/-- DICTBUCKET 17 (R192). -/
def elemDictbucket17 (s : State) : Res State := selectWord 17 s
/-- The meaning of DICTBUCKET 17 (R192). -/
def execDictbucket17 (s : State) : Answer State := duringPhase .copy s (elemDictbucket17 s)

/-- DICTBUCKET 18 (R192). -/
def elemDictbucket18 (s : State) : Res State := selectWord 18 s
/-- The meaning of DICTBUCKET 18 (R192). -/
def execDictbucket18 (s : State) : Answer State := duringPhase .copy s (elemDictbucket18 s)

/-- DICTBUCKET 19 (R192). -/
def elemDictbucket19 (s : State) : Res State := selectWord 19 s
/-- The meaning of DICTBUCKET 19 (R192). -/
def execDictbucket19 (s : State) : Answer State := duringPhase .copy s (elemDictbucket19 s)

/-- DICTBUCKET 20 (R192). -/
def elemDictbucket20 (s : State) : Res State := selectWord 20 s
/-- The meaning of DICTBUCKET 20 (R192). -/
def execDictbucket20 (s : State) : Answer State := duringPhase .copy s (elemDictbucket20 s)

/-- DICTBUCKET 21 (R192). -/
def elemDictbucket21 (s : State) : Res State := selectWord 21 s
/-- The meaning of DICTBUCKET 21 (R192). -/
def execDictbucket21 (s : State) : Answer State := duringPhase .copy s (elemDictbucket21 s)

/-- DICTBUCKET 22 (R192). -/
def elemDictbucket22 (s : State) : Res State := selectWord 22 s
/-- The meaning of DICTBUCKET 22 (R192). -/
def execDictbucket22 (s : State) : Answer State := duringPhase .copy s (elemDictbucket22 s)

/-- DICTBUCKET 23 (R192). -/
def elemDictbucket23 (s : State) : Res State := selectWord 23 s
/-- The meaning of DICTBUCKET 23 (R192). -/
def execDictbucket23 (s : State) : Answer State := duringPhase .copy s (elemDictbucket23 s)

/-- DICTBUCKET 24 (R192). -/
def elemDictbucket24 (s : State) : Res State := selectWord 24 s
/-- The meaning of DICTBUCKET 24 (R192). -/
def execDictbucket24 (s : State) : Answer State := duringPhase .copy s (elemDictbucket24 s)

end Sys2Proof.Machine
end

