-- ==== Sys2Proof/Machine/Distances.lean ====
section
/-! DEFINITION. The rows of distance codes (43_command_loop.md R174 to R178; 30_encoding.md R84, R85). -/

namespace Sys2Proof.Machine

/-- A resolved distance: the copy phase comes next (R22 of 10_state.md; R178). -/
def resolve (code : Nat) (d : Int) (s : State) : State := { s with dcode := code, distance := d, cmdPhase := .copy }

/-- A short distance code (R175, R176). -/
def shortCode (code : Nat) (s : State) : Res State := do
  let s ← consume s.distanceCode code s
  if shortDistance s.distRing code ≤ 0 then raise .formatDistance "non-positive distance" s
  else return resolve code (shortDistance s.distRing code) s

/-- A direct distance code (R175, R177; 30_encoding.md R85). -/
def directCode (code : Nat) (s : State) : Res State := do
  let s ← consume s.distanceCode code s
  return resolve code ((code - 15 : Nat) : Int) s

/-- A long distance code and its extra bits (R175, R177; 30_encoding.md R85). -/
def longCode (code : Nat) (s : State) : Res State := do
  let s ← consume s.distanceCode code s
  let (x, s) ← readBits (distanceBits s.npostfix s.ndirect code) s
  return resolve code (longDistance s.npostfix s.ndirect code x : Nat) s

/-! ### The rows -/

/-- DIST 0 (R176). -/
def elemDist0 (s : State) : Res State := shortCode 0 s
/-- The meaning of DIST 0 (R176). -/
def execDist0 (s : State) : Answer State := duringPhase .distance s (elemDist0 s)

/-- DIST 1 (R176). -/
def elemDist1 (s : State) : Res State := shortCode 1 s
/-- The meaning of DIST 1 (R176). -/
def execDist1 (s : State) : Answer State := duringPhase .distance s (elemDist1 s)

/-- DIST 2 (R176). -/
def elemDist2 (s : State) : Res State := shortCode 2 s
/-- The meaning of DIST 2 (R176). -/
def execDist2 (s : State) : Answer State := duringPhase .distance s (elemDist2 s)

/-- DIST 3 (R176). -/
def elemDist3 (s : State) : Res State := shortCode 3 s
/-- The meaning of DIST 3 (R176). -/
def execDist3 (s : State) : Answer State := duringPhase .distance s (elemDist3 s)

/-- DIST 4 (R176). -/
def elemDist4 (s : State) : Res State := shortCode 4 s
/-- The meaning of DIST 4 (R176). -/
def execDist4 (s : State) : Answer State := duringPhase .distance s (elemDist4 s)

/-- DIST 5 (R176). -/
def elemDist5 (s : State) : Res State := shortCode 5 s
/-- The meaning of DIST 5 (R176). -/
def execDist5 (s : State) : Answer State := duringPhase .distance s (elemDist5 s)

/-- DIST 6 (R176). -/
def elemDist6 (s : State) : Res State := shortCode 6 s
/-- The meaning of DIST 6 (R176). -/
def execDist6 (s : State) : Answer State := duringPhase .distance s (elemDist6 s)

/-- DIST 7 (R176). -/
def elemDist7 (s : State) : Res State := shortCode 7 s
/-- The meaning of DIST 7 (R176). -/
def execDist7 (s : State) : Answer State := duringPhase .distance s (elemDist7 s)

/-- DIST 8 (R176). -/
def elemDist8 (s : State) : Res State := shortCode 8 s
/-- The meaning of DIST 8 (R176). -/
def execDist8 (s : State) : Answer State := duringPhase .distance s (elemDist8 s)

/-- DIST 9 (R176). -/
def elemDist9 (s : State) : Res State := shortCode 9 s
/-- The meaning of DIST 9 (R176). -/
def execDist9 (s : State) : Answer State := duringPhase .distance s (elemDist9 s)

/-- DIST 10 (R176). -/
def elemDist10 (s : State) : Res State := shortCode 10 s
/-- The meaning of DIST 10 (R176). -/
def execDist10 (s : State) : Answer State := duringPhase .distance s (elemDist10 s)

/-- DIST 11 (R176). -/
def elemDist11 (s : State) : Res State := shortCode 11 s
/-- The meaning of DIST 11 (R176). -/
def execDist11 (s : State) : Answer State := duringPhase .distance s (elemDist11 s)

/-- DIST 12 (R176). -/
def elemDist12 (s : State) : Res State := shortCode 12 s
/-- The meaning of DIST 12 (R176). -/
def execDist12 (s : State) : Answer State := duringPhase .distance s (elemDist12 s)

/-- DIST 13 (R176). -/
def elemDist13 (s : State) : Res State := shortCode 13 s
/-- The meaning of DIST 13 (R176). -/
def execDist13 (s : State) : Answer State := duringPhase .distance s (elemDist13 s)

/-- DIST 14 (R176). -/
def elemDist14 (s : State) : Res State := shortCode 14 s
/-- The meaning of DIST 14 (R176). -/
def execDist14 (s : State) : Answer State := duringPhase .distance s (elemDist14 s)

/-- DIST 15 (R176). -/
def elemDist15 (s : State) : Res State := shortCode 15 s
/-- The meaning of DIST 15 (R176). -/
def execDist15 (s : State) : Answer State := duringPhase .distance s (elemDist15 s)

/-- DIST direct (R85). -/
def elemDistDirect (code : Nat) (s : State) : Res State := directCode code s
/-- The meaning of DIST direct (R85). -/
def execDistDirect (code : Nat) (s : State) : Answer State := duringPhase .distance s (elemDistDirect code s)

/-- DIST long (R177). -/
def elemDistLong (code : Nat) (s : State) : Res State := longCode code s
/-- The meaning of DIST long (R177). -/
def execDistLong (code : Nat) (s : State) : Answer State := duringPhase .distance s (elemDistLong code s)

end Sys2Proof.Machine
end

