-- ==== Sys2Proof/Machine/Header.lean ====
section
/-! DEFINITION. The rows of the stream header, the meta-block header, the metadata header, padding, and the variable-length
count (42_metablock.md R128 to R138; 30_encoding.md R73 to R75). Each row has its effect on the state inside an
operation (`elem…`) and its meaning as an instruction (`exec…`). -/

namespace Sys2Proof.Machine

/-- A window-size field of `n` bits that gives WBITS = `w` (R128, R129). -/
def setWindow (n w : Nat) (s : State) : Res State := do
  let s ← skip n s
  return { s with wbits := w }.goto .metaBlockHeader

/-- The large-window marker (R131). -/
def largeWindow (n : Nat) (s : State) : Res State := do
  let s ← skip n s
  if s.params.largeWindow then .error (.refuse .largeWindow)
  else raise .formatWindowBits "invalid window-size code" s

/-- The reserved bit of a metadata header, set (R137). -/
def reservedBitSet (s : State) : Res State := do
  let s ← skip 1 s
  raise .formatReserved "reserved bit pattern" s

/-- MSKIPBYTES (R137, R138). -/
def setSkipBytes (k : Nat) (s : State) : Res State := do
  let s ← skip 2 s
  return { s with work := { s.work with skb := k, acc := 0, index := 0 } }

/-- One byte of MSKIPLEN - 1 (R138). -/
def skipLengthByte (b : Nat) (s : State) : Res State := do
  let s ← skip 8 s
  let w := s.work
  if w.index + 1 = w.skb ∧ 1 < w.skb ∧ b = 0 then
    raise .formatExuberantMetaNibble "invalid meta-block size nibble" s
  else return { s with work := { w with acc := w.acc ||| (b <<< (8 * w.index)), index := w.index + 1 } }

/-- A variable-length count of `n` bits and value `v` (30_encoding.md R75). -/
def setCount (n v : Nat) (s : State) : Res State := do
  let s ← skip n s
  return { s with work := { s.work with count := v } }

/-- The decoder states in which padding of a kind is read: interior padding before a metadata or uncompressed body, final
padding at the end of a last meta-block, whose header or body it follows (40_bitreader.md R102; 42_metablock.md R132,
R138 to R140). -/
def padStates : PadKind → List DecState
  | .interior => [.metadata, .uncompressedBody]
  | .final => [.metaBlockHeader, .metadata, .commandLoop]

/-! ### The rows -/

/-- WBITS 16 (R129). -/
def elemWbits16 (s : State) : Res State := setWindow 1 16 s
/-- The meaning of WBITS 16 (R129). -/
def execWbits16 (s : State) : Answer State := during [.streamHeader] s (elemWbits16 s)

/-- WBITS 18 (R129). -/
def elemWbits18 (s : State) : Res State := setWindow 4 18 s
/-- The meaning of WBITS 18 (R129). -/
def execWbits18 (s : State) : Answer State := during [.streamHeader] s (elemWbits18 s)

/-- WBITS 19 (R129). -/
def elemWbits19 (s : State) : Res State := setWindow 4 19 s
/-- The meaning of WBITS 19 (R129). -/
def execWbits19 (s : State) : Answer State := during [.streamHeader] s (elemWbits19 s)

/-- WBITS 20 (R129). -/
def elemWbits20 (s : State) : Res State := setWindow 4 20 s
/-- The meaning of WBITS 20 (R129). -/
def execWbits20 (s : State) : Answer State := during [.streamHeader] s (elemWbits20 s)

/-- WBITS 21 (R129). -/
def elemWbits21 (s : State) : Res State := setWindow 4 21 s
/-- The meaning of WBITS 21 (R129). -/
def execWbits21 (s : State) : Answer State := during [.streamHeader] s (elemWbits21 s)

/-- WBITS 22 (R129). -/
def elemWbits22 (s : State) : Res State := setWindow 4 22 s
/-- The meaning of WBITS 22 (R129). -/
def execWbits22 (s : State) : Answer State := during [.streamHeader] s (elemWbits22 s)

/-- WBITS 23 (R129). -/
def elemWbits23 (s : State) : Res State := setWindow 4 23 s
/-- The meaning of WBITS 23 (R129). -/
def execWbits23 (s : State) : Answer State := during [.streamHeader] s (elemWbits23 s)

/-- WBITS 24 (R129). -/
def elemWbits24 (s : State) : Res State := setWindow 4 24 s
/-- The meaning of WBITS 24 (R129). -/
def execWbits24 (s : State) : Answer State := during [.streamHeader] s (elemWbits24 s)

/-- WBITS 17 (R129). -/
def elemWbits17 (s : State) : Res State := setWindow 7 17 s
/-- The meaning of WBITS 17 (R129). -/
def execWbits17 (s : State) : Answer State := during [.streamHeader] s (elemWbits17 s)

/-- WBITS LARGE (R131). -/
def elemWbitsLarge (s : State) : Res State := largeWindow 7 s
/-- The meaning of WBITS LARGE (R131). -/
def execWbitsLarge (s : State) : Answer State := during [.streamHeader] s (elemWbitsLarge s)

/-- WBITS 10 (R129). -/
def elemWbits10 (s : State) : Res State := setWindow 7 10 s
/-- The meaning of WBITS 10 (R129). -/
def execWbits10 (s : State) : Answer State := during [.streamHeader] s (elemWbits10 s)

/-- WBITS 11 (R129). -/
def elemWbits11 (s : State) : Res State := setWindow 7 11 s
/-- The meaning of WBITS 11 (R129). -/
def execWbits11 (s : State) : Answer State := during [.streamHeader] s (elemWbits11 s)

/-- WBITS 12 (R129). -/
def elemWbits12 (s : State) : Res State := setWindow 7 12 s
/-- The meaning of WBITS 12 (R129). -/
def execWbits12 (s : State) : Answer State := during [.streamHeader] s (elemWbits12 s)

/-- WBITS 13 (R129). -/
def elemWbits13 (s : State) : Res State := setWindow 7 13 s
/-- The meaning of WBITS 13 (R129). -/
def execWbits13 (s : State) : Answer State := during [.streamHeader] s (elemWbits13 s)

/-- WBITS 14 (R129). -/
def elemWbits14 (s : State) : Res State := setWindow 7 14 s
/-- The meaning of WBITS 14 (R129). -/
def execWbits14 (s : State) : Answer State := during [.streamHeader] s (elemWbits14 s)

/-- WBITS 15 (R129). -/
def elemWbits15 (s : State) : Res State := setWindow 7 15 s
/-- The meaning of WBITS 15 (R129). -/
def execWbits15 (s : State) : Answer State := during [.streamHeader] s (elemWbits15 s)

/-- MHDR last=1 empty=1 (R132). -/
def elemMhdrLast1Empty1 (s : State) : Res State := lastEmptyHeader s
/-- The meaning of MHDR last=1 empty=1 (R132). -/
def execMhdrLast1Empty1 (s : State) : Answer State := during [.metaBlockHeader] s (elemMhdrLast1Empty1 s)

/-- MHDR last=1 empty=0 (R132). -/
def elemMhdrLast1Empty0 (s : State) : Res State := lastHeader s
/-- The meaning of MHDR last=1 empty=0 (R132). -/
def execMhdrLast1Empty0 (s : State) : Answer State := during [.metaBlockHeader] s (elemMhdrLast1Empty0 s)

/-- MHDR last=0 (R132). -/
def elemMhdrLast0 (s : State) : Res State := notLastHeader s
/-- The meaning of MHDR last=0 (R132). -/
def execMhdrLast0 (s : State) : Answer State := during [.metaBlockHeader] s (elemMhdrLast0 s)

/-- MNIBBLES 0 (R134). -/
def elemMnibbles0 (s : State) : Res State := dataNibbles 4 s
/-- The meaning of MNIBBLES 0 (R134). -/
def execMnibbles0 (s : State) : Answer State := during [.metaBlockHeader] s (elemMnibbles0 s)

/-- MNIBBLES 1 (R134). -/
def elemMnibbles1 (s : State) : Res State := dataNibbles 5 s
/-- The meaning of MNIBBLES 1 (R134). -/
def execMnibbles1 (s : State) : Answer State := during [.metaBlockHeader] s (elemMnibbles1 s)

/-- MNIBBLES 2 (R134). -/
def elemMnibbles2 (s : State) : Res State := dataNibbles 6 s
/-- The meaning of MNIBBLES 2 (R134). -/
def execMnibbles2 (s : State) : Answer State := during [.metaBlockHeader] s (elemMnibbles2 s)

/-- MNIBBLES 3 (R133). -/
def elemMnibbles3 (s : State) : Res State := metadataNibbles s
/-- The meaning of MNIBBLES 3 (R133). -/
def execMnibbles3 (s : State) : Answer State := during [.metaBlockHeader] s (elemMnibbles3 s)

/-- MLEN nibble (R134). -/
def elemMlenNibble (x : Nat) (s : State) : Res State := lengthNibble x s
/-- The meaning of MLEN nibble (R134). -/
def execMlenNibble (x : Nat) (s : State) : Answer State := during [.metaBlockHeader] s (elemMlenNibble x s)

/-- ISUNCOMPRESSED 0 (R135). -/
def elemIsuncompressed0 (s : State) : Res State := uncompressedFlag false s
/-- The meaning of ISUNCOMPRESSED 0 (R135). -/
def execIsuncompressed0 (s : State) : Answer State := during [.metaBlockHeader] s (elemIsuncompressed0 s)

/-- ISUNCOMPRESSED 1 (R135). -/
def elemIsuncompressed1 (s : State) : Res State := uncompressedFlag true s
/-- The meaning of ISUNCOMPRESSED 1 (R135). -/
def execIsuncompressed1 (s : State) : Answer State := during [.metaBlockHeader] s (elemIsuncompressed1 s)

/-- METADATA reserved=0 (R137). -/
def elemMetadataReserved0 (s : State) : Res State := skip 1 s
/-- The meaning of METADATA reserved=0 (R137). -/
def execMetadataReserved0 (s : State) : Answer State := during [.metadata] s (elemMetadataReserved0 s)

/-- METADATA reserved=1 (R137). -/
def elemMetadataReserved1 (s : State) : Res State := reservedBitSet s
/-- The meaning of METADATA reserved=1 (R137). -/
def execMetadataReserved1 (s : State) : Answer State := during [.metadata] s (elemMetadataReserved1 s)

/-- MSKIPBYTES 0 (R138). -/
def elemMskipbytes0 (s : State) : Res State := setSkipBytes 0 s
/-- The meaning of MSKIPBYTES 0 (R138). -/
def execMskipbytes0 (s : State) : Answer State := during [.metadata] s (elemMskipbytes0 s)

/-- MSKIPBYTES 1 (R138). -/
def elemMskipbytes1 (s : State) : Res State := setSkipBytes 1 s
/-- The meaning of MSKIPBYTES 1 (R138). -/
def execMskipbytes1 (s : State) : Answer State := during [.metadata] s (elemMskipbytes1 s)

/-- MSKIPBYTES 2 (R138). -/
def elemMskipbytes2 (s : State) : Res State := setSkipBytes 2 s
/-- The meaning of MSKIPBYTES 2 (R138). -/
def execMskipbytes2 (s : State) : Answer State := during [.metadata] s (elemMskipbytes2 s)

/-- MSKIPBYTES 3 (R138). -/
def elemMskipbytes3 (s : State) : Res State := setSkipBytes 3 s
/-- The meaning of MSKIPBYTES 3 (R138). -/
def execMskipbytes3 (s : State) : Answer State := during [.metadata] s (elemMskipbytes3 s)

/-- MSKIPLEN byte (R138). -/
def elemMskiplenByte (b : Nat) (s : State) : Res State := skipLengthByte b s
/-- The meaning of MSKIPLEN byte (R138). -/
def execMskiplenByte (b : Nat) (s : State) : Answer State := during [.metadata] s (elemMskiplenByte b s)

/-- PAD (R98). -/
def elemPad (k : PadKind) (n : Nat) (v : Nat) (s : State) : Res State := padding k n v s
/-- The meaning of PAD (R98). -/
def execPad (k : PadKind) (n : Nat) (v : Nat) (s : State) : Answer State := during (padStates k) s (elemPad k n v s)

/-- VARLEN 0 (R75). -/
def elemVarlen0 (s : State) : Res State := setCount 1 0 s
/-- The meaning of VARLEN 0 (R75). -/
def execVarlen0 (s : State) : Answer State := during [.compressedSetup] s (elemVarlen0 s)

/-- VARLEN 1 (R75). -/
def elemVarlen1 (s : State) : Res State := setCount 4 1 s
/-- The meaning of VARLEN 1 (R75). -/
def execVarlen1 (s : State) : Answer State := during [.compressedSetup] s (elemVarlen1 s)

/-- VARLEN n=1 (R75). -/
def elemVarlenN1 (x : Nat) (s : State) : Res State := setCount 5 (2 + x) s
/-- The meaning of VARLEN n=1 (R75). -/
def execVarlenN1 (x : Nat) (s : State) : Answer State := during [.compressedSetup] s (elemVarlenN1 x s)

/-- VARLEN n=2 (R75). -/
def elemVarlenN2 (x : Nat) (s : State) : Res State := setCount 6 (4 + x) s
/-- The meaning of VARLEN n=2 (R75). -/
def execVarlenN2 (x : Nat) (s : State) : Answer State := during [.compressedSetup] s (elemVarlenN2 x s)

/-- VARLEN n=3 (R75). -/
def elemVarlenN3 (x : Nat) (s : State) : Res State := setCount 7 (8 + x) s
/-- The meaning of VARLEN n=3 (R75). -/
def execVarlenN3 (x : Nat) (s : State) : Answer State := during [.compressedSetup] s (elemVarlenN3 x s)

/-- VARLEN n=4 (R75). -/
def elemVarlenN4 (x : Nat) (s : State) : Res State := setCount 8 (16 + x) s
/-- The meaning of VARLEN n=4 (R75). -/
def execVarlenN4 (x : Nat) (s : State) : Answer State := during [.compressedSetup] s (elemVarlenN4 x s)

/-- VARLEN n=5 (R75). -/
def elemVarlenN5 (x : Nat) (s : State) : Res State := setCount 9 (32 + x) s
/-- The meaning of VARLEN n=5 (R75). -/
def execVarlenN5 (x : Nat) (s : State) : Answer State := during [.compressedSetup] s (elemVarlenN5 x s)

/-- VARLEN n=6 (R75). -/
def elemVarlenN6 (x : Nat) (s : State) : Res State := setCount 10 (64 + x) s
/-- The meaning of VARLEN n=6 (R75). -/
def execVarlenN6 (x : Nat) (s : State) : Answer State := during [.compressedSetup] s (elemVarlenN6 x s)

/-- VARLEN n=7 (R75). -/
def elemVarlenN7 (x : Nat) (s : State) : Res State := setCount 11 (128 + x) s
/-- The meaning of VARLEN n=7 (R75). -/
def execVarlenN7 (x : Nat) (s : State) : Answer State := during [.compressedSetup] s (elemVarlenN7 x s)

end Sys2Proof.Machine
end

