-- ==== Sys2Proof/Machine/PrefixCodes.lean ====
section
/-! DEFINITION. Reading a prefix code: the rows of its header, of the code-length code and of the code-length symbols
(41_prefix_codes.md R104 to R117; 30_encoding.md R76 to R78). -/

namespace Sys2Proof.Machine

/-- HSKIP = 1: a simple code (R104). -/
def startSimple (s : State) : Res State := do
  let s ← skip 2 s
  return { s with work := { s.work with hskip := 1, syms := [] } }

/-- HSKIP = 0, 2 or 3: a complex code, whose code-length-code lengths start at that place of the order (R104, R108). -/
def startComplex (h : Nat) (s : State) : Res State := do
  let s ← skip 2 s
  return { s with work := { s.work with hskip := h, index := h, cl := List.replicate 18 0, num := 0, space := 32 } }

/-- One symbol of a simple code, with its range check (R105, R106). -/
def simpleSymbol (s : State) : Res State := do
  let (v, s) ← readBits (bitlength (s.work.alphabet - 1)) s
  if s.work.alphabet ≤ v then raise .formatSimpleHuffmanAlphabet "invalid simple-Huffman alphabet" s
  else return { s with work := { s.work with syms := s.work.syms ++ [v] } }

/-- The code of alphabet size `A` in which each listed symbol has the listed length and every other one length 0 (R107). -/
def lengthsOf (A : Nat) (ps : List (Nat × Nat)) : PrefixCode :=
  ps.foldl (fun T p => T.set p.1 p.2) (List.replicate A 0)

/-- The lengths of a simple code's symbols in the order read (R107). The one symbol of a degenerate code is given length 1,
which R118 and R124 give the same meaning (log entry 6). -/
def simpleLengths (nsym : Nat) (treeSelect : Bool) : List Nat :=
  match nsym, treeSelect with
  | 1, _ => [1]
  | 2, _ => [1, 1]
  | 3, _ => [1, 2, 2]
  | _, false => [2, 2, 2, 2]
  | _, true => [1, 2, 3, 3]

/-- Writes the lengths of a simple code (R107). -/
def assignSimple (nsym : Nat) (treeSelect : Bool) (s : State) : State :=
  { s with work := { s.work with
      lens := lengthsOf s.work.alphabet (s.work.syms.zip (simpleLengths nsym treeSelect)) } }

/-- NSYM: the symbols and their checks; up to three symbols fix the lengths, four wait for the tree-select bit
(R105 to R107). -/
def simpleSymbols (nsym : Nat) (s : State) : Res State := do
  let s ← skip 2 s
  let s ← iterate nsym simpleSymbol { s with work := { s.work with syms := [] } }
  if s.work.syms.Nodup then
    return if nsym < 4 then assignSimple nsym false s else s
  else raise .formatSimpleHuffmanSame "duplicate symbols" s

/-- The tree-select bit of a simple code of four symbols (R107). -/
def selectTree (b : Bool) (s : State) : Res State := do
  let s ← skip 1 s
  return assignSimple 4 b s

/-- One code-length-code length `v`, of `n` bits, for the next symbol of the order (R108). -/
def codeLengthLength (n v : Nat) (s : State) : Res State := do
  let s ← skip n s
  let w := s.work
  match codeLengthOrder[w.index]? with
  | none => .error (.fault .noElement)
  | some sym =>
    let w := { w with cl := w.cl.set sym v, index := w.index + 1 }
    return { s with work := if v = 0 then w else { w with space := w.space - ((32 >>> v : Nat) : Int), num := w.num + 1 } }

/-- The check of the code-length code, and the start of the symbol lengths (R109, R111). -/
def checkCodeLengths (s : State) : Res State :=
  let w := s.work
  if w.num = 1 ∨ w.space = 0 then
    .ok { s with work := { w with
      lens := List.replicate w.alphabet 0, symbol := 0, prevLen := 8, rep := 0, repLen := 0, space := 32768 } }
  else raise .formatClSpace "code-length code space" s

/-- A literal code length (R112). -/
def literalLength (c : Nat) (s : State) : Res State := do
  let s ← consume (some s.work.cl) c s
  let w := s.work
  let w := { w with rep := 0, lens := w.lens.set w.symbol c, symbol := w.symbol + 1 }
  return { s with work := if c = 0 then w else { w with prevLen := c, space := w.space - ((32768 >>> c : Nat) : Int) } }

/-- `len[symbol + k] <- newLen` for `k` below `n` (R116). -/
def fillLengths (T : PrefixCode) (i newLen : Nat) : Nat → PrefixCode
  | 0 => T
  | n + 1 => fillLengths (T.set i newLen) (i + 1) newLen n

/-- A repeat code of value `newLen` with `eb` extra bits, after its codeword: the accumulation and its effect
(R115, R116). -/
def repeatLength (newLen eb : Nat) (s : State) : Res State := do
  let (x, s) ← readBits eb s
  let w := s.work
  let old := if w.repLen = newLen then w.rep else 0
  let rep := (if 0 < old then (old - 2) <<< eb else old) + x + 3
  let delta := rep - old
  if w.alphabet < w.symbol + delta then raise .formatHuffmanSpace "repeat past alphabet" s
  else
    let w := { w with
      rep := rep, repLen := newLen, lens := fillLengths w.lens w.symbol newLen delta, symbol := w.symbol + delta }
    return { s with work :=
      if newLen = 0 then w else { w with space := w.space - ((delta <<< (15 - newLen) : Nat) : Int) } }

/-- Code 16: repeats the previous non-zero length (R113, R114). -/
def repeatPrevious (s : State) : Res State := do
  let s ← consume (some s.work.cl) 16 s
  repeatLength s.work.prevLen 2 s

/-- Code 17: repeats zero (R113). -/
def repeatZero (s : State) : Res State := do
  let s ← consume (some s.work.cl) 17 s
  repeatLength 0 3 s

/-- The check at the end of the symbol lengths (R117). -/
def checkSpace (s : State) : Res State :=
  if s.work.space = 0 then .ok s else raise .formatHuffmanSpace "code space" s

/-! ### The rows -/

/-- HSKIP 0 (R108). -/
def elemHskip0 (s : State) : Res State := startComplex 0 s
/-- The meaning of HSKIP 0 (R108). -/
def execHskip0 (s : State) : Answer State := during [.compressedSetup] s (elemHskip0 s)

/-- HSKIP 1 (R105). -/
def elemHskip1 (s : State) : Res State := startSimple s
/-- The meaning of HSKIP 1 (R105). -/
def execHskip1 (s : State) : Answer State := during [.compressedSetup] s (elemHskip1 s)

/-- HSKIP 2 (R108). -/
def elemHskip2 (s : State) : Res State := startComplex 2 s
/-- The meaning of HSKIP 2 (R108). -/
def execHskip2 (s : State) : Answer State := during [.compressedSetup] s (elemHskip2 s)

/-- HSKIP 3 (R108). -/
def elemHskip3 (s : State) : Res State := startComplex 3 s
/-- The meaning of HSKIP 3 (R108). -/
def execHskip3 (s : State) : Answer State := during [.compressedSetup] s (elemHskip3 s)

/-- NSYM 1 (R105). -/
def elemNsym1 (s : State) : Res State := simpleSymbols 1 s
/-- The meaning of NSYM 1 (R105). -/
def execNsym1 (s : State) : Answer State := during [.compressedSetup] s (elemNsym1 s)

/-- NSYM 2 (R105). -/
def elemNsym2 (s : State) : Res State := simpleSymbols 2 s
/-- The meaning of NSYM 2 (R105). -/
def execNsym2 (s : State) : Answer State := during [.compressedSetup] s (elemNsym2 s)

/-- NSYM 3 (R105). -/
def elemNsym3 (s : State) : Res State := simpleSymbols 3 s
/-- The meaning of NSYM 3 (R105). -/
def execNsym3 (s : State) : Answer State := during [.compressedSetup] s (elemNsym3 s)

/-- NSYM 4 (R105). -/
def elemNsym4 (s : State) : Res State := simpleSymbols 4 s
/-- The meaning of NSYM 4 (R105). -/
def execNsym4 (s : State) : Answer State := during [.compressedSetup] s (elemNsym4 s)

/-- TREESELECT 0 (R107). -/
def elemTreeselect0 (s : State) : Res State := selectTree false s
/-- The meaning of TREESELECT 0 (R107). -/
def execTreeselect0 (s : State) : Answer State := during [.compressedSetup] s (elemTreeselect0 s)

/-- TREESELECT 1 (R107). -/
def elemTreeselect1 (s : State) : Res State := selectTree true s
/-- The meaning of TREESELECT 1 (R107). -/
def execTreeselect1 (s : State) : Answer State := during [.compressedSetup] s (elemTreeselect1 s)

/-- CLCL 0 (R76). -/
def elemClcl0 (s : State) : Res State := codeLengthLength 2 0 s
/-- The meaning of CLCL 0 (R76). -/
def execClcl0 (s : State) : Answer State := during [.compressedSetup] s (elemClcl0 s)

/-- CLCL 3 (R76). -/
def elemClcl3 (s : State) : Res State := codeLengthLength 2 3 s
/-- The meaning of CLCL 3 (R76). -/
def execClcl3 (s : State) : Answer State := during [.compressedSetup] s (elemClcl3 s)

/-- CLCL 4 (R76). -/
def elemClcl4 (s : State) : Res State := codeLengthLength 2 4 s
/-- The meaning of CLCL 4 (R76). -/
def execClcl4 (s : State) : Answer State := during [.compressedSetup] s (elemClcl4 s)

/-- CLCL 2 (R76). -/
def elemClcl2 (s : State) : Res State := codeLengthLength 3 2 s
/-- The meaning of CLCL 2 (R76). -/
def execClcl2 (s : State) : Answer State := during [.compressedSetup] s (elemClcl2 s)

/-- CLCL 1 (R76). -/
def elemClcl1 (s : State) : Res State := codeLengthLength 4 1 s
/-- The meaning of CLCL 1 (R76). -/
def execClcl1 (s : State) : Answer State := during [.compressedSetup] s (elemClcl1 s)

/-- CLCL 5 (R76). -/
def elemClcl5 (s : State) : Res State := codeLengthLength 4 5 s
/-- The meaning of CLCL 5 (R76). -/
def execClcl5 (s : State) : Answer State := during [.compressedSetup] s (elemClcl5 s)

/-- CLSYM 0 (R112). -/
def elemClsym0 (s : State) : Res State := literalLength 0 s
/-- The meaning of CLSYM 0 (R112). -/
def execClsym0 (s : State) : Answer State := during [.compressedSetup] s (elemClsym0 s)

/-- CLSYM 1 (R112). -/
def elemClsym1 (s : State) : Res State := literalLength 1 s
/-- The meaning of CLSYM 1 (R112). -/
def execClsym1 (s : State) : Answer State := during [.compressedSetup] s (elemClsym1 s)

/-- CLSYM 2 (R112). -/
def elemClsym2 (s : State) : Res State := literalLength 2 s
/-- The meaning of CLSYM 2 (R112). -/
def execClsym2 (s : State) : Answer State := during [.compressedSetup] s (elemClsym2 s)

/-- CLSYM 3 (R112). -/
def elemClsym3 (s : State) : Res State := literalLength 3 s
/-- The meaning of CLSYM 3 (R112). -/
def execClsym3 (s : State) : Answer State := during [.compressedSetup] s (elemClsym3 s)

/-- CLSYM 4 (R112). -/
def elemClsym4 (s : State) : Res State := literalLength 4 s
/-- The meaning of CLSYM 4 (R112). -/
def execClsym4 (s : State) : Answer State := during [.compressedSetup] s (elemClsym4 s)

/-- CLSYM 5 (R112). -/
def elemClsym5 (s : State) : Res State := literalLength 5 s
/-- The meaning of CLSYM 5 (R112). -/
def execClsym5 (s : State) : Answer State := during [.compressedSetup] s (elemClsym5 s)

/-- CLSYM 6 (R112). -/
def elemClsym6 (s : State) : Res State := literalLength 6 s
/-- The meaning of CLSYM 6 (R112). -/
def execClsym6 (s : State) : Answer State := during [.compressedSetup] s (elemClsym6 s)

/-- CLSYM 7 (R112). -/
def elemClsym7 (s : State) : Res State := literalLength 7 s
/-- The meaning of CLSYM 7 (R112). -/
def execClsym7 (s : State) : Answer State := during [.compressedSetup] s (elemClsym7 s)

/-- CLSYM 8 (R112). -/
def elemClsym8 (s : State) : Res State := literalLength 8 s
/-- The meaning of CLSYM 8 (R112). -/
def execClsym8 (s : State) : Answer State := during [.compressedSetup] s (elemClsym8 s)

/-- CLSYM 9 (R112). -/
def elemClsym9 (s : State) : Res State := literalLength 9 s
/-- The meaning of CLSYM 9 (R112). -/
def execClsym9 (s : State) : Answer State := during [.compressedSetup] s (elemClsym9 s)

/-- CLSYM 10 (R112). -/
def elemClsym10 (s : State) : Res State := literalLength 10 s
/-- The meaning of CLSYM 10 (R112). -/
def execClsym10 (s : State) : Answer State := during [.compressedSetup] s (elemClsym10 s)

/-- CLSYM 11 (R112). -/
def elemClsym11 (s : State) : Res State := literalLength 11 s
/-- The meaning of CLSYM 11 (R112). -/
def execClsym11 (s : State) : Answer State := during [.compressedSetup] s (elemClsym11 s)

/-- CLSYM 12 (R112). -/
def elemClsym12 (s : State) : Res State := literalLength 12 s
/-- The meaning of CLSYM 12 (R112). -/
def execClsym12 (s : State) : Answer State := during [.compressedSetup] s (elemClsym12 s)

/-- CLSYM 13 (R112). -/
def elemClsym13 (s : State) : Res State := literalLength 13 s
/-- The meaning of CLSYM 13 (R112). -/
def execClsym13 (s : State) : Answer State := during [.compressedSetup] s (elemClsym13 s)

/-- CLSYM 14 (R112). -/
def elemClsym14 (s : State) : Res State := literalLength 14 s
/-- The meaning of CLSYM 14 (R112). -/
def execClsym14 (s : State) : Answer State := during [.compressedSetup] s (elemClsym14 s)

/-- CLSYM 15 (R112). -/
def elemClsym15 (s : State) : Res State := literalLength 15 s
/-- The meaning of CLSYM 15 (R112). -/
def execClsym15 (s : State) : Answer State := during [.compressedSetup] s (elemClsym15 s)

/-- CLSYM 16 (R113). -/
def elemClsym16 (s : State) : Res State := repeatPrevious s
/-- The meaning of CLSYM 16 (R113). -/
def execClsym16 (s : State) : Answer State := during [.compressedSetup] s (elemClsym16 s)

/-- CLSYM 17 (R113). -/
def elemClsym17 (s : State) : Res State := repeatZero s
/-- The meaning of CLSYM 17 (R113). -/
def execClsym17 (s : State) : Answer State := during [.compressedSetup] s (elemClsym17 s)

end Sys2Proof.Machine
end

