-- ==== Sys2Proof/Machine/Setup.lean ====
section
/-! DEFINITION. The rows of a compressed meta-block's setup and of block switches: distance parameters, context modes,
context maps, block types and block counts (42_metablock.md R141 to R153; 43_command_loop.md R162; 30_encoding.md R79,
R80, R86, R92). -/

namespace Sys2Proof.Machine

/-- NPOSTFIX (R145). -/
def setPostfix (k : Nat) (s : State) : Res State := do
  let s ← skip 2 s
  return { s with npostfix := k }

/-- NDIRECT (R145). -/
def setDirect (x : Nat) (s : State) : Res State := do
  let s ← skip 4 s
  return { s with ndirect := x <<< s.npostfix }

/-- The context mode of the next literal block type (R146). -/
def pushMode (m : CtxMode) (s : State) : Res State := do
  let s ← skip 2 s
  return { s with cmode := s.cmode ++ [m] }

/-- RLEMAX, a field of `n` bits (R148). -/
def setRlemax (n r : Nat) (s : State) : Res State := do
  let s ← skip n s
  return { s with work := { s.work with rlemax := r } }

/-- One context-map entry of value 0 (R149). -/
def mapZero (s : State) : Res State := do
  let s ← consume (some s.work.lens) 0 s
  return { s with work := { s.work with map := s.work.map ++ [0] } }

/-- A run of zero entries (R149, R150). -/
def mapRun (v : Nat) (s : State) : Res State := do
  let s ← consume (some s.work.lens) v s
  let (x, s) ← readBits v s
  let run := (1 <<< v) + x
  if s.work.mapSize < s.work.map.length + run then
    raise .formatContextMapRepeat "context-map repeat run too long" s
  else return { s with work := { s.work with map := s.work.map ++ List.replicate run 0 } }

/-- One context-map entry of value `v - RLEMAX` (R149). -/
def mapValue (v : Nat) (s : State) : Res State := do
  let s ← consume (some s.work.lens) v s
  return { s with work := { s.work with map := s.work.map ++ [v - s.work.rlemax] } }

/-- The inverse move-to-front of a map, from the list `mtf` (R152). -/
def moveToFront (mtf : List Nat) : List Nat → List Nat
  | [] => []
  | idx :: rest => mtf.getD idx 0 :: moveToFront (mtf.getD idx 0 :: (mtf.take idx ++ mtf.drop (idx + 1))) rest

/-- IMTF = 1: the inverse move-to-front over the whole map (R152). -/
def applyMoveToFront (s : State) : Res State := do
  let s ← skip 1 s
  return { s with work := { s.work with map := moveToFront (List.range 256) s.work.map } }

/-- The block type that symbol `t` selects (30_encoding.md R79). -/
def Tracker.resolve (k : Tracker) (t : Nat) : Nat :=
  if t = 0 then k.prevType else if t = 1 then (k.btype + 1) % k.nbltypes else t - 2

/-- A block-type symbol: the first half of a block switch (43_command_loop.md R162). -/
def switchType (c : Category) (t : Nat) (s : State) : Res State := do
  let s ← consume (some (s.tracker c).htreeBtype) t s
  let k := s.tracker c
  return s.setTracker c { k with prevType := k.btype, btype := k.resolve t }

/-- A block-count symbol and its extra bits (R144). -/
def renewCount (c : Category) (k : Nat) (s : State) : Res State := do
  let s ← consume (some (s.tracker c).htreeBlen) k s
  let (x, s) ← readBits (blockCountExtra.getD k 0) s
  return s.setTracker c { s.tracker c with blen := blockCountBase.getD k 0 + x }

/-! ### The rows -/

/-- NPOSTFIX 0 (R145). -/
def elemNpostfix0 (s : State) : Res State := setPostfix 0 s
/-- The meaning of NPOSTFIX 0 (R145). -/
def execNpostfix0 (s : State) : Answer State := during [.compressedSetup] s (elemNpostfix0 s)

/-- NPOSTFIX 1 (R145). -/
def elemNpostfix1 (s : State) : Res State := setPostfix 1 s
/-- The meaning of NPOSTFIX 1 (R145). -/
def execNpostfix1 (s : State) : Answer State := during [.compressedSetup] s (elemNpostfix1 s)

/-- NPOSTFIX 2 (R145). -/
def elemNpostfix2 (s : State) : Res State := setPostfix 2 s
/-- The meaning of NPOSTFIX 2 (R145). -/
def execNpostfix2 (s : State) : Answer State := during [.compressedSetup] s (elemNpostfix2 s)

/-- NPOSTFIX 3 (R145). -/
def elemNpostfix3 (s : State) : Res State := setPostfix 3 s
/-- The meaning of NPOSTFIX 3 (R145). -/
def execNpostfix3 (s : State) : Answer State := during [.compressedSetup] s (elemNpostfix3 s)

/-- NDIRECT (R145). -/
def elemNdirect (x : Nat) (s : State) : Res State := setDirect x s
/-- The meaning of NDIRECT (R145). -/
def execNdirect (x : Nat) (s : State) : Answer State := during [.compressedSetup] s (elemNdirect x s)

/-- CMODE LSB6 (R86). -/
def elemCmodeLsb6 (s : State) : Res State := pushMode .lsb6 s
/-- The meaning of CMODE LSB6 (R86). -/
def execCmodeLsb6 (s : State) : Answer State := during [.compressedSetup] s (elemCmodeLsb6 s)

/-- CMODE MSB6 (R86). -/
def elemCmodeMsb6 (s : State) : Res State := pushMode .msb6 s
/-- The meaning of CMODE MSB6 (R86). -/
def execCmodeMsb6 (s : State) : Answer State := during [.compressedSetup] s (elemCmodeMsb6 s)

/-- CMODE UTF8 (R86). -/
def elemCmodeUtf8 (s : State) : Res State := pushMode .utf8 s
/-- The meaning of CMODE UTF8 (R86). -/
def execCmodeUtf8 (s : State) : Answer State := during [.compressedSetup] s (elemCmodeUtf8 s)

/-- CMODE Signed (R86). -/
def elemCmodeSigned (s : State) : Res State := pushMode .signed s
/-- The meaning of CMODE Signed (R86). -/
def execCmodeSigned (s : State) : Answer State := during [.compressedSetup] s (elemCmodeSigned s)

/-- CMAP RLEMAX=0 (R148). -/
def elemCmapRlemax0 (s : State) : Res State := setRlemax 1 0 s
/-- The meaning of CMAP RLEMAX=0 (R148). -/
def execCmapRlemax0 (s : State) : Answer State := during [.compressedSetup] s (elemCmapRlemax0 s)

/-- CMAP RLEMAX (R148). -/
def elemCmapRlemax (x : Nat) (s : State) : Res State := setRlemax 5 (x + 1) s
/-- The meaning of CMAP RLEMAX (R148). -/
def execCmapRlemax (x : Nat) (s : State) : Answer State := during [.compressedSetup] s (elemCmapRlemax x s)

/-- CMAP IMTF=0 (R152). -/
def elemCmapImtf0 (s : State) : Res State := skip 1 s
/-- The meaning of CMAP IMTF=0 (R152). -/
def execCmapImtf0 (s : State) : Answer State := during [.compressedSetup] s (elemCmapImtf0 s)

/-- CMAP IMTF=1 (R152). -/
def elemCmapImtf1 (s : State) : Res State := applyMoveToFront s
/-- The meaning of CMAP IMTF=1 (R152). -/
def execCmapImtf1 (s : State) : Answer State := during [.compressedSetup] s (elemCmapImtf1 s)

/-- BTYPE 0 (R162). -/
def elemBtype0 (c : Category) (s : State) : Res State := switchType c 0 s
/-- The meaning of BTYPE 0 (R162). -/
def execBtype0 (c : Category) (s : State) : Answer State := during [.commandLoop] s (elemBtype0 c s)

/-- BTYPE 1 (R162). -/
def elemBtype1 (c : Category) (s : State) : Res State := switchType c 1 s
/-- The meaning of BTYPE 1 (R162). -/
def execBtype1 (c : Category) (s : State) : Answer State := during [.commandLoop] s (elemBtype1 c s)

/-- BTYPE t (R162). -/
def elemBtypeT (c : Category) (t : Nat) (s : State) : Res State := switchType c t s
/-- The meaning of BTYPE t (R162). -/
def execBtypeT (c : Category) (t : Nat) (s : State) : Answer State := during [.commandLoop] s (elemBtypeT c t s)

/-- BLEN 0 (R144). -/
def elemBlen0 (c : Category) (s : State) : Res State := renewCount c 0 s
/-- The meaning of BLEN 0 (R144). -/
def execBlen0 (c : Category) (s : State) : Answer State := during [.compressedSetup, .commandLoop] s (elemBlen0 c s)

/-- BLEN 1 (R144). -/
def elemBlen1 (c : Category) (s : State) : Res State := renewCount c 1 s
/-- The meaning of BLEN 1 (R144). -/
def execBlen1 (c : Category) (s : State) : Answer State := during [.compressedSetup, .commandLoop] s (elemBlen1 c s)

/-- BLEN 2 (R144). -/
def elemBlen2 (c : Category) (s : State) : Res State := renewCount c 2 s
/-- The meaning of BLEN 2 (R144). -/
def execBlen2 (c : Category) (s : State) : Answer State := during [.compressedSetup, .commandLoop] s (elemBlen2 c s)

/-- BLEN 3 (R144). -/
def elemBlen3 (c : Category) (s : State) : Res State := renewCount c 3 s
/-- The meaning of BLEN 3 (R144). -/
def execBlen3 (c : Category) (s : State) : Answer State := during [.compressedSetup, .commandLoop] s (elemBlen3 c s)

/-- BLEN 4 (R144). -/
def elemBlen4 (c : Category) (s : State) : Res State := renewCount c 4 s
/-- The meaning of BLEN 4 (R144). -/
def execBlen4 (c : Category) (s : State) : Answer State := during [.compressedSetup, .commandLoop] s (elemBlen4 c s)

/-- BLEN 5 (R144). -/
def elemBlen5 (c : Category) (s : State) : Res State := renewCount c 5 s
/-- The meaning of BLEN 5 (R144). -/
def execBlen5 (c : Category) (s : State) : Answer State := during [.compressedSetup, .commandLoop] s (elemBlen5 c s)

/-- BLEN 6 (R144). -/
def elemBlen6 (c : Category) (s : State) : Res State := renewCount c 6 s
/-- The meaning of BLEN 6 (R144). -/
def execBlen6 (c : Category) (s : State) : Answer State := during [.compressedSetup, .commandLoop] s (elemBlen6 c s)

/-- BLEN 7 (R144). -/
def elemBlen7 (c : Category) (s : State) : Res State := renewCount c 7 s
/-- The meaning of BLEN 7 (R144). -/
def execBlen7 (c : Category) (s : State) : Answer State := during [.compressedSetup, .commandLoop] s (elemBlen7 c s)

/-- BLEN 8 (R144). -/
def elemBlen8 (c : Category) (s : State) : Res State := renewCount c 8 s
/-- The meaning of BLEN 8 (R144). -/
def execBlen8 (c : Category) (s : State) : Answer State := during [.compressedSetup, .commandLoop] s (elemBlen8 c s)

/-- BLEN 9 (R144). -/
def elemBlen9 (c : Category) (s : State) : Res State := renewCount c 9 s
/-- The meaning of BLEN 9 (R144). -/
def execBlen9 (c : Category) (s : State) : Answer State := during [.compressedSetup, .commandLoop] s (elemBlen9 c s)

/-- BLEN 10 (R144). -/
def elemBlen10 (c : Category) (s : State) : Res State := renewCount c 10 s
/-- The meaning of BLEN 10 (R144). -/
def execBlen10 (c : Category) (s : State) : Answer State := during [.compressedSetup, .commandLoop] s (elemBlen10 c s)

/-- BLEN 11 (R144). -/
def elemBlen11 (c : Category) (s : State) : Res State := renewCount c 11 s
/-- The meaning of BLEN 11 (R144). -/
def execBlen11 (c : Category) (s : State) : Answer State := during [.compressedSetup, .commandLoop] s (elemBlen11 c s)

/-- BLEN 12 (R144). -/
def elemBlen12 (c : Category) (s : State) : Res State := renewCount c 12 s
/-- The meaning of BLEN 12 (R144). -/
def execBlen12 (c : Category) (s : State) : Answer State := during [.compressedSetup, .commandLoop] s (elemBlen12 c s)

/-- BLEN 13 (R144). -/
def elemBlen13 (c : Category) (s : State) : Res State := renewCount c 13 s
/-- The meaning of BLEN 13 (R144). -/
def execBlen13 (c : Category) (s : State) : Answer State := during [.compressedSetup, .commandLoop] s (elemBlen13 c s)

/-- BLEN 14 (R144). -/
def elemBlen14 (c : Category) (s : State) : Res State := renewCount c 14 s
/-- The meaning of BLEN 14 (R144). -/
def execBlen14 (c : Category) (s : State) : Answer State := during [.compressedSetup, .commandLoop] s (elemBlen14 c s)

/-- BLEN 15 (R144). -/
def elemBlen15 (c : Category) (s : State) : Res State := renewCount c 15 s
/-- The meaning of BLEN 15 (R144). -/
def execBlen15 (c : Category) (s : State) : Answer State := during [.compressedSetup, .commandLoop] s (elemBlen15 c s)

/-- BLEN 16 (R144). -/
def elemBlen16 (c : Category) (s : State) : Res State := renewCount c 16 s
/-- The meaning of BLEN 16 (R144). -/
def execBlen16 (c : Category) (s : State) : Answer State := during [.compressedSetup, .commandLoop] s (elemBlen16 c s)

/-- BLEN 17 (R144). -/
def elemBlen17 (c : Category) (s : State) : Res State := renewCount c 17 s
/-- The meaning of BLEN 17 (R144). -/
def execBlen17 (c : Category) (s : State) : Answer State := during [.compressedSetup, .commandLoop] s (elemBlen17 c s)

/-- BLEN 18 (R144). -/
def elemBlen18 (c : Category) (s : State) : Res State := renewCount c 18 s
/-- The meaning of BLEN 18 (R144). -/
def execBlen18 (c : Category) (s : State) : Answer State := during [.compressedSetup, .commandLoop] s (elemBlen18 c s)

/-- BLEN 19 (R144). -/
def elemBlen19 (c : Category) (s : State) : Res State := renewCount c 19 s
/-- The meaning of BLEN 19 (R144). -/
def execBlen19 (c : Category) (s : State) : Answer State := during [.compressedSetup, .commandLoop] s (elemBlen19 c s)

/-- BLEN 20 (R144). -/
def elemBlen20 (c : Category) (s : State) : Res State := renewCount c 20 s
/-- The meaning of BLEN 20 (R144). -/
def execBlen20 (c : Category) (s : State) : Answer State := during [.compressedSetup, .commandLoop] s (elemBlen20 c s)

/-- BLEN 21 (R144). -/
def elemBlen21 (c : Category) (s : State) : Res State := renewCount c 21 s
/-- The meaning of BLEN 21 (R144). -/
def execBlen21 (c : Category) (s : State) : Answer State := during [.compressedSetup, .commandLoop] s (elemBlen21 c s)

/-- BLEN 22 (R144). -/
def elemBlen22 (c : Category) (s : State) : Res State := renewCount c 22 s
/-- The meaning of BLEN 22 (R144). -/
def execBlen22 (c : Category) (s : State) : Answer State := during [.compressedSetup, .commandLoop] s (elemBlen22 c s)

/-- BLEN 23 (R144). -/
def elemBlen23 (c : Category) (s : State) : Res State := renewCount c 23 s
/-- The meaning of BLEN 23 (R144). -/
def execBlen23 (c : Category) (s : State) : Answer State := during [.compressedSetup, .commandLoop] s (elemBlen23 c s)

/-- BLEN 24 (R144). -/
def elemBlen24 (c : Category) (s : State) : Res State := renewCount c 24 s
/-- The meaning of BLEN 24 (R144). -/
def execBlen24 (c : Category) (s : State) : Answer State := during [.compressedSetup, .commandLoop] s (elemBlen24 c s)

/-- BLEN 25 (R144). -/
def elemBlen25 (c : Category) (s : State) : Res State := renewCount c 25 s
/-- The meaning of BLEN 25 (R144). -/
def execBlen25 (c : Category) (s : State) : Answer State := during [.compressedSetup, .commandLoop] s (elemBlen25 c s)

/-- CMAPSYM 0 (R149). -/
def elemCmapsym0 (s : State) : Res State := mapZero s
/-- The meaning of CMAPSYM 0 (R149). -/
def execCmapsym0 (s : State) : Answer State := during [.compressedSetup] s (elemCmapsym0 s)

/-- CMAPSYM run (R149). -/
def elemCmapsymRun (v : Nat) (s : State) : Res State := mapRun v s
/-- The meaning of CMAPSYM run (R149). -/
def execCmapsymRun (v : Nat) (s : State) : Answer State := during [.compressedSetup] s (elemCmapsymRun v s)

/-- CMAPSYM value (R149). -/
def elemCmapsymValue (v : Nat) (s : State) : Res State := mapValue v s
/-- The meaning of CMAPSYM value (R149). -/
def execCmapsymValue (v : Nat) (s : State) : Answer State := during [.compressedSetup] s (elemCmapsymValue v s)

end Sys2Proof.Machine
end

