-- ==== Sys2Proof/Machine/Elements.lean ====
section
/-! DEFINITION. Reading an element: the row that the decoder finds at the cursor, run on the state. -/

namespace Sys2Proof.Machine

/-- The effect of an element's row inside an operation. The ten operations are not elements. -/
def elem (i : Instr) (s : State) : Res State :=
  match i with
  | .wbits16 => elemWbits16 s
  | .wbits18 => elemWbits18 s
  | .wbits19 => elemWbits19 s
  | .wbits20 => elemWbits20 s
  | .wbits21 => elemWbits21 s
  | .wbits22 => elemWbits22 s
  | .wbits23 => elemWbits23 s
  | .wbits24 => elemWbits24 s
  | .wbits17 => elemWbits17 s
  | .wbitsLarge => elemWbitsLarge s
  | .wbits10 => elemWbits10 s
  | .wbits11 => elemWbits11 s
  | .wbits12 => elemWbits12 s
  | .wbits13 => elemWbits13 s
  | .wbits14 => elemWbits14 s
  | .wbits15 => elemWbits15 s
  | .mhdrLast1Empty1 => elemMhdrLast1Empty1 s
  | .mhdrLast1Empty0 => elemMhdrLast1Empty0 s
  | .mhdrLast0 => elemMhdrLast0 s
  | .mnibbles0 => elemMnibbles0 s
  | .mnibbles1 => elemMnibbles1 s
  | .mnibbles2 => elemMnibbles2 s
  | .mnibbles3 => elemMnibbles3 s
  | .mlenNibble x => elemMlenNibble x s
  | .isuncompressed0 => elemIsuncompressed0 s
  | .isuncompressed1 => elemIsuncompressed1 s
  | .metadataReserved0 => elemMetadataReserved0 s
  | .metadataReserved1 => elemMetadataReserved1 s
  | .mskipbytes0 => elemMskipbytes0 s
  | .mskipbytes1 => elemMskipbytes1 s
  | .mskipbytes2 => elemMskipbytes2 s
  | .mskipbytes3 => elemMskipbytes3 s
  | .mskiplenByte b => elemMskiplenByte b s
  | .pad k n v => elemPad k n v s
  | .varlen0 => elemVarlen0 s
  | .varlen1 => elemVarlen1 s
  | .varlenN1 x => elemVarlenN1 x s
  | .varlenN2 x => elemVarlenN2 x s
  | .varlenN3 x => elemVarlenN3 x s
  | .varlenN4 x => elemVarlenN4 x s
  | .varlenN5 x => elemVarlenN5 x s
  | .varlenN6 x => elemVarlenN6 x s
  | .varlenN7 x => elemVarlenN7 x s
  | .npostfix0 => elemNpostfix0 s
  | .npostfix1 => elemNpostfix1 s
  | .npostfix2 => elemNpostfix2 s
  | .npostfix3 => elemNpostfix3 s
  | .ndirect x => elemNdirect x s
  | .cmodeLsb6 => elemCmodeLsb6 s
  | .cmodeMsb6 => elemCmodeMsb6 s
  | .cmodeUtf8 => elemCmodeUtf8 s
  | .cmodeSigned => elemCmodeSigned s
  | .cmapRlemax0 => elemCmapRlemax0 s
  | .cmapRlemax x => elemCmapRlemax x s
  | .cmapImtf0 => elemCmapImtf0 s
  | .cmapImtf1 => elemCmapImtf1 s
  | .hskip0 => elemHskip0 s
  | .hskip1 => elemHskip1 s
  | .hskip2 => elemHskip2 s
  | .hskip3 => elemHskip3 s
  | .nsym1 => elemNsym1 s
  | .nsym2 => elemNsym2 s
  | .nsym3 => elemNsym3 s
  | .nsym4 => elemNsym4 s
  | .treeselect0 => elemTreeselect0 s
  | .treeselect1 => elemTreeselect1 s
  | .clcl0 => elemClcl0 s
  | .clcl3 => elemClcl3 s
  | .clcl4 => elemClcl4 s
  | .clcl2 => elemClcl2 s
  | .clcl1 => elemClcl1 s
  | .clcl5 => elemClcl5 s
  | .clsym0 => elemClsym0 s
  | .clsym1 => elemClsym1 s
  | .clsym2 => elemClsym2 s
  | .clsym3 => elemClsym3 s
  | .clsym4 => elemClsym4 s
  | .clsym5 => elemClsym5 s
  | .clsym6 => elemClsym6 s
  | .clsym7 => elemClsym7 s
  | .clsym8 => elemClsym8 s
  | .clsym9 => elemClsym9 s
  | .clsym10 => elemClsym10 s
  | .clsym11 => elemClsym11 s
  | .clsym12 => elemClsym12 s
  | .clsym13 => elemClsym13 s
  | .clsym14 => elemClsym14 s
  | .clsym15 => elemClsym15 s
  | .clsym16 => elemClsym16 s
  | .clsym17 => elemClsym17 s
  | .btype0 c => elemBtype0 c s
  | .btype1 c => elemBtype1 c s
  | .btypeT c t => elemBtypeT c t s
  | .blen0 c => elemBlen0 c s
  | .blen1 c => elemBlen1 c s
  | .blen2 c => elemBlen2 c s
  | .blen3 c => elemBlen3 c s
  | .blen4 c => elemBlen4 c s
  | .blen5 c => elemBlen5 c s
  | .blen6 c => elemBlen6 c s
  | .blen7 c => elemBlen7 c s
  | .blen8 c => elemBlen8 c s
  | .blen9 c => elemBlen9 c s
  | .blen10 c => elemBlen10 c s
  | .blen11 c => elemBlen11 c s
  | .blen12 c => elemBlen12 c s
  | .blen13 c => elemBlen13 c s
  | .blen14 c => elemBlen14 c s
  | .blen15 c => elemBlen15 c s
  | .blen16 c => elemBlen16 c s
  | .blen17 c => elemBlen17 c s
  | .blen18 c => elemBlen18 c s
  | .blen19 c => elemBlen19 c s
  | .blen20 c => elemBlen20 c s
  | .blen21 c => elemBlen21 c s
  | .blen22 c => elemBlen22 c s
  | .blen23 c => elemBlen23 c s
  | .blen24 c => elemBlen24 c s
  | .blen25 c => elemBlen25 c s
  | .cmapsym0 => elemCmapsym0 s
  | .cmapsymRun v => elemCmapsymRun v s
  | .cmapsymValue v => elemCmapsymValue v s
  | .litB b => elemLitB b s
  | .cmdCell0 sym => elemCmdCell0 sym s
  | .cmdCell1 sym => elemCmdCell1 sym s
  | .cmdCell2 sym => elemCmdCell2 sym s
  | .cmdCell3 sym => elemCmdCell3 sym s
  | .cmdCell4 sym => elemCmdCell4 sym s
  | .cmdCell5 sym => elemCmdCell5 sym s
  | .cmdCell6 sym => elemCmdCell6 sym s
  | .cmdCell7 sym => elemCmdCell7 sym s
  | .cmdCell8 sym => elemCmdCell8 sym s
  | .cmdCell9 sym => elemCmdCell9 sym s
  | .cmdCell10 sym => elemCmdCell10 sym s
  | .inscode0 => elemInscode0 s
  | .inscode1 => elemInscode1 s
  | .inscode2 => elemInscode2 s
  | .inscode3 => elemInscode3 s
  | .inscode4 => elemInscode4 s
  | .inscode5 => elemInscode5 s
  | .inscode6 => elemInscode6 s
  | .inscode7 => elemInscode7 s
  | .inscode8 => elemInscode8 s
  | .inscode9 => elemInscode9 s
  | .inscode10 => elemInscode10 s
  | .inscode11 => elemInscode11 s
  | .inscode12 => elemInscode12 s
  | .inscode13 => elemInscode13 s
  | .inscode14 => elemInscode14 s
  | .inscode15 => elemInscode15 s
  | .inscode16 => elemInscode16 s
  | .inscode17 => elemInscode17 s
  | .inscode18 => elemInscode18 s
  | .inscode19 => elemInscode19 s
  | .inscode20 => elemInscode20 s
  | .inscode21 => elemInscode21 s
  | .inscode22 => elemInscode22 s
  | .inscode23 => elemInscode23 s
  | .copycode0 => elemCopycode0 s
  | .copycode1 => elemCopycode1 s
  | .copycode2 => elemCopycode2 s
  | .copycode3 => elemCopycode3 s
  | .copycode4 => elemCopycode4 s
  | .copycode5 => elemCopycode5 s
  | .copycode6 => elemCopycode6 s
  | .copycode7 => elemCopycode7 s
  | .copycode8 => elemCopycode8 s
  | .copycode9 => elemCopycode9 s
  | .copycode10 => elemCopycode10 s
  | .copycode11 => elemCopycode11 s
  | .copycode12 => elemCopycode12 s
  | .copycode13 => elemCopycode13 s
  | .copycode14 => elemCopycode14 s
  | .copycode15 => elemCopycode15 s
  | .copycode16 => elemCopycode16 s
  | .copycode17 => elemCopycode17 s
  | .copycode18 => elemCopycode18 s
  | .copycode19 => elemCopycode19 s
  | .copycode20 => elemCopycode20 s
  | .copycode21 => elemCopycode21 s
  | .copycode22 => elemCopycode22 s
  | .copycode23 => elemCopycode23 s
  | .dist0 => elemDist0 s
  | .dist1 => elemDist1 s
  | .dist2 => elemDist2 s
  | .dist3 => elemDist3 s
  | .dist4 => elemDist4 s
  | .dist5 => elemDist5 s
  | .dist6 => elemDist6 s
  | .dist7 => elemDist7 s
  | .dist8 => elemDist8 s
  | .dist9 => elemDist9 s
  | .dist10 => elemDist10 s
  | .dist11 => elemDist11 s
  | .dist12 => elemDist12 s
  | .dist13 => elemDist13 s
  | .dist14 => elemDist14 s
  | .dist15 => elemDist15 s
  | .distDirect code => elemDistDirect code s
  | .distLong code => elemDistLong code s
  | .topIdentity => elemTopIdentity s
  | .topOmitLast1 => elemTopOmitLast1 s
  | .topOmitLast2 => elemTopOmitLast2 s
  | .topOmitLast3 => elemTopOmitLast3 s
  | .topOmitLast4 => elemTopOmitLast4 s
  | .topOmitLast5 => elemTopOmitLast5 s
  | .topOmitLast6 => elemTopOmitLast6 s
  | .topOmitLast7 => elemTopOmitLast7 s
  | .topOmitLast8 => elemTopOmitLast8 s
  | .topOmitLast9 => elemTopOmitLast9 s
  | .topUppercaseFirst => elemTopUppercaseFirst s
  | .topUppercaseAll => elemTopUppercaseAll s
  | .topOmitFirst1 => elemTopOmitFirst1 s
  | .topOmitFirst2 => elemTopOmitFirst2 s
  | .topOmitFirst3 => elemTopOmitFirst3 s
  | .topOmitFirst4 => elemTopOmitFirst4 s
  | .topOmitFirst5 => elemTopOmitFirst5 s
  | .topOmitFirst6 => elemTopOmitFirst6 s
  | .topOmitFirst7 => elemTopOmitFirst7 s
  | .topOmitFirst8 => elemTopOmitFirst8 s
  | .topOmitFirst9 => elemTopOmitFirst9 s
  | .topShiftFirst param => elemTopShiftFirst param s
  | .topShiftAll param => elemTopShiftAll param s
  | .transformReserved tid => elemTransformReserved tid s
  | .transform0 => elemTransform0 s
  | .transform1 => elemTransform1 s
  | .transform2 => elemTransform2 s
  | .transform3 => elemTransform3 s
  | .transform4 => elemTransform4 s
  | .transform5 => elemTransform5 s
  | .transform6 => elemTransform6 s
  | .transform7 => elemTransform7 s
  | .transform8 => elemTransform8 s
  | .transform9 => elemTransform9 s
  | .transform10 => elemTransform10 s
  | .transform11 => elemTransform11 s
  | .transform12 => elemTransform12 s
  | .transform13 => elemTransform13 s
  | .transform14 => elemTransform14 s
  | .transform15 => elemTransform15 s
  | .transform16 => elemTransform16 s
  | .transform17 => elemTransform17 s
  | .transform18 => elemTransform18 s
  | .transform19 => elemTransform19 s
  | .transform20 => elemTransform20 s
  | .transform21 => elemTransform21 s
  | .transform22 => elemTransform22 s
  | .transform23 => elemTransform23 s
  | .transform24 => elemTransform24 s
  | .transform25 => elemTransform25 s
  | .transform26 => elemTransform26 s
  | .transform27 => elemTransform27 s
  | .transform28 => elemTransform28 s
  | .transform29 => elemTransform29 s
  | .transform30 => elemTransform30 s
  | .transform31 => elemTransform31 s
  | .transform32 => elemTransform32 s
  | .transform33 => elemTransform33 s
  | .transform34 => elemTransform34 s
  | .transform35 => elemTransform35 s
  | .transform36 => elemTransform36 s
  | .transform37 => elemTransform37 s
  | .transform38 => elemTransform38 s
  | .transform39 => elemTransform39 s
  | .transform40 => elemTransform40 s
  | .transform41 => elemTransform41 s
  | .transform42 => elemTransform42 s
  | .transform43 => elemTransform43 s
  | .transform44 => elemTransform44 s
  | .transform45 => elemTransform45 s
  | .transform46 => elemTransform46 s
  | .transform47 => elemTransform47 s
  | .transform48 => elemTransform48 s
  | .transform49 => elemTransform49 s
  | .transform50 => elemTransform50 s
  | .transform51 => elemTransform51 s
  | .transform52 => elemTransform52 s
  | .transform53 => elemTransform53 s
  | .transform54 => elemTransform54 s
  | .transform55 => elemTransform55 s
  | .transform56 => elemTransform56 s
  | .transform57 => elemTransform57 s
  | .transform58 => elemTransform58 s
  | .transform59 => elemTransform59 s
  | .transform60 => elemTransform60 s
  | .transform61 => elemTransform61 s
  | .transform62 => elemTransform62 s
  | .transform63 => elemTransform63 s
  | .transform64 => elemTransform64 s
  | .transform65 => elemTransform65 s
  | .transform66 => elemTransform66 s
  | .transform67 => elemTransform67 s
  | .transform68 => elemTransform68 s
  | .transform69 => elemTransform69 s
  | .transform70 => elemTransform70 s
  | .transform71 => elemTransform71 s
  | .transform72 => elemTransform72 s
  | .transform73 => elemTransform73 s
  | .transform74 => elemTransform74 s
  | .transform75 => elemTransform75 s
  | .transform76 => elemTransform76 s
  | .transform77 => elemTransform77 s
  | .transform78 => elemTransform78 s
  | .transform79 => elemTransform79 s
  | .transform80 => elemTransform80 s
  | .transform81 => elemTransform81 s
  | .transform82 => elemTransform82 s
  | .transform83 => elemTransform83 s
  | .transform84 => elemTransform84 s
  | .transform85 => elemTransform85 s
  | .transform86 => elemTransform86 s
  | .transform87 => elemTransform87 s
  | .transform88 => elemTransform88 s
  | .transform89 => elemTransform89 s
  | .transform90 => elemTransform90 s
  | .transform91 => elemTransform91 s
  | .transform92 => elemTransform92 s
  | .transform93 => elemTransform93 s
  | .transform94 => elemTransform94 s
  | .transform95 => elemTransform95 s
  | .transform96 => elemTransform96 s
  | .transform97 => elemTransform97 s
  | .transform98 => elemTransform98 s
  | .transform99 => elemTransform99 s
  | .transform100 => elemTransform100 s
  | .transform101 => elemTransform101 s
  | .transform102 => elemTransform102 s
  | .transform103 => elemTransform103 s
  | .transform104 => elemTransform104 s
  | .transform105 => elemTransform105 s
  | .transform106 => elemTransform106 s
  | .transform107 => elemTransform107 s
  | .transform108 => elemTransform108 s
  | .transform109 => elemTransform109 s
  | .transform110 => elemTransform110 s
  | .transform111 => elemTransform111 s
  | .transform112 => elemTransform112 s
  | .transform113 => elemTransform113 s
  | .transform114 => elemTransform114 s
  | .transform115 => elemTransform115 s
  | .transform116 => elemTransform116 s
  | .transform117 => elemTransform117 s
  | .transform118 => elemTransform118 s
  | .transform119 => elemTransform119 s
  | .transform120 => elemTransform120 s
  | .dictbucket4 => elemDictbucket4 s
  | .dictbucket5 => elemDictbucket5 s
  | .dictbucket6 => elemDictbucket6 s
  | .dictbucket7 => elemDictbucket7 s
  | .dictbucket8 => elemDictbucket8 s
  | .dictbucket9 => elemDictbucket9 s
  | .dictbucket10 => elemDictbucket10 s
  | .dictbucket11 => elemDictbucket11 s
  | .dictbucket12 => elemDictbucket12 s
  | .dictbucket13 => elemDictbucket13 s
  | .dictbucket14 => elemDictbucket14 s
  | .dictbucket15 => elemDictbucket15 s
  | .dictbucket16 => elemDictbucket16 s
  | .dictbucket17 => elemDictbucket17 s
  | .dictbucket18 => elemDictbucket18 s
  | .dictbucket19 => elemDictbucket19 s
  | .dictbucket20 => elemDictbucket20 s
  | .dictbucket21 => elemDictbucket21 s
  | .dictbucket22 => elemDictbucket22 s
  | .dictbucket23 => elemDictbucket23 s
  | .dictbucket24 => elemDictbucket24 s
  | .streamHeader | .mhdr | .metadata | .uncompressed | .setup | .cmd | .lit | .dist | .copy | .dict => .error (.fault .notEnabled)

/-- Reads the element that stands at a place of the grammar and runs its row. The end of the input is an error at the read
that meets it (40_bitreader.md R97; 60_exceptions.md R219). -/
def runElement (c : Ctx) (s : State) : Res State :=
  match decode c s.window with
  | .ok (i, _) => elem i s
  | .error (.endOfInput used) => .error (.raise .invalidArguments "read past end of input" (s.bitpos + used))
  | .error .noOperation | .error .noCodeword | .error (.noSuchEntry _) => .error (.fault .noElement)

/-- Reads a symbol of an alphabet with the prefix code in force, and runs its row (41_prefix_codes.md R123). -/
def runSymbol (a : Alphabet) (code : Option PrefixCode) (s : State) : Res State :=
  match code with
  | some T => runElement (.symbol a T) s
  | none => .error (.fault .unsetField)

end Sys2Proof.Machine
end

