-- ==== Sys2Proof/Machine/Operations.lean ====
section
/-! DEFINITION. The ten operations: the atomic steps of the block (00_scope.md R2, R14; 42_metablock.md, 43_command_loop.md,
44_dictionary_transforms.md). Each reads its elements through `runElement`, so that the rows of the opcode table are what
it runs. -/

namespace Sys2Proof.Machine

/-! ### Prefix codes (41_prefix_codes.md R104 to R117) -/

/-- `readSimple(A)`, after HSKIP (R105 to R107). -/
def readSimple (s : State) : Res State := do
  let s ← runElement (.field .nsym) s
  if s.work.syms.length = 4 then runElement (.field .treeSelect) s else .ok s

/-- `readComplex(A, hskip)`, after HSKIP: at most 18 code-length-code lengths, and at most `A` code-length symbols, since
each one advances `symbol` (R108 to R117). -/
def readComplex (s : State) : Res State := do
  let s ← iterateWhile (18 - s.work.hskip) (fun t => decide (0 < t.work.space)) (runElement (.field .clcl)) s
  let s ← checkCodeLengths s
  let s ← iterateWhile s.work.alphabet (fun t => decide (t.work.symbol < t.work.alphabet ∧ 0 < t.work.space))
    (fun t => runSymbol .codeLength (some t.work.cl) t) s
  checkSpace s

/-- `readPrefixCode(A)`: the code read is `work.lens` (R104). -/
def readPrefixCode (A : Nat) (s : State) : Res State := do
  let s ← runElement (.field .hskip) { s with work := { s.work with alphabet := A } }
  if s.work.hskip = 1 then readSimple s else readComplex s

/-! ### Block switches (43_command_loop.md R162, R163) -/

/-- `readBlockCount(c)` (42_metablock.md R144). -/
def readBlockCount (c : Category) (s : State) : Res State :=
  runSymbol (.blockCount c) (some (s.tracker c).htreeBlen) s

/-- `blockSwitch(c)` (R162). -/
def blockSwitch (c : Category) (s : State) : Res State := do
  let s ← runSymbol (.blockType c) (some (s.tracker c).htreeBtype) s
  readBlockCount c s

/-- What comes before a symbol of a category: nothing where it has one block type; else a block switch when the count has
run out, and one symbol off the count (R163, R164, R171, R175). -/
def countSymbol (c : Category) (s : State) : Res State :=
  if 2 ≤ (s.tracker c).nbltypes then do
    let s ← if (s.tracker c).blen = 0 then blockSwitch c s else .ok s
    return s.setTracker c { s.tracker c with blen := (s.tracker c).blen - 1 }
  else .ok s

/-! ### Compressed setup (42_metablock.md R141 to R158) -/

/-- The block header of a category (R141 to R144, R157). -/
def blockHeader (c : Category) (s : State) : Res State := do
  let s ← runElement (.field .varlen) s
  let n := s.work.count + 1
  let s := s.setTracker c { nbltypes := n, btype := 0, blen := 1 <<< 24, prevType := 1, htreeBtype := [], htreeBlen := [] }
  if 2 ≤ n then do
    let s ← allocate .blockTypeTrees .allocBlockTypeTrees s
    let s ← readPrefixCode (n + 2) s
    let s := s.setTracker c { s.tracker c with htreeBtype := s.work.lens }
    let s ← readPrefixCode 26 s
    let s := s.setTracker c { s.tracker c with htreeBlen := s.work.lens }
    readBlockCount c s
  else .ok s

/-- `readContextMap(size, ntrees)`: the map read is `work.map` (R148 to R152). -/
def readContextMap (size ntrees : Nat) (s : State) : Res State := do
  let s ← runElement (.field .rlemax) s
  let s ← readPrefixCode (ntrees + s.work.rlemax) s
  let s := { s with work := { s.work with mapSize := size, map := [] } }
  let s ← iterateWhile size (fun t => decide (t.work.map.length < t.work.mapSize))
    (fun t => runSymbol (.contextMap t.work.rlemax) (some t.work.lens) t) s
  runElement (.field .imtf) s

/-- A context map of `size` entries with its number of trees: `work.map` and `work.count + 1` (R147, R153, R157). -/
def contextMap (size : Nat) (s : State) : Res State := do
  let s ← runElement (.field .varlen) s
  let s ← allocate .contextMap .allocContextMap s
  if 2 ≤ s.work.count + 1 then do
    let n := s.work.count
    let s ← readContextMap size (n + 1) s
    return { s with work := { s.work with count := n } }
  else return { s with work := { s.work with map := List.replicate size 0 } }

/-- NPOSTFIX and NDIRECT (R145). -/
def distanceParameters (s : State) : Res State := do
  let s ← runElement (.field .npostfix) s
  runElement (.field .ndirect) s

/-- The context modes of the literal block types (R146, R157). -/
def contextModes (s : State) : Res State := do
  let s ← allocate .contextModes .allocContextModes s
  iterate s.trackerL.nbltypes (runElement (.field .cmode)) { s with cmode := [] }

/-- The literal context map (R147). -/
def literalMap (s : State) : Res State := do
  let s ← contextMap (64 * s.trackerL.nbltypes) s
  return { s with ntreesL := s.work.count + 1, cmapL := s.work.map }

/-- The distance context map (R153). -/
def distanceMap (s : State) : Res State := do
  let s ← contextMap (4 * s.trackerD.nbltypes) s
  return { s with ntreesD := s.work.count + 1, cmapD := s.work.map }

/-- One literal tree (R154). -/
def literalTree (s : State) : Res State := do
  let s ← readPrefixCode 256 s
  return { s with htreeL := s.htreeL ++ [s.work.lens] }

/-- One command tree (R154). -/
def commandTree (s : State) : Res State := do
  let s ← readPrefixCode 704 s
  return { s with htreeI := s.htreeI ++ [s.work.lens] }

/-- One distance tree (R154). -/
def distanceTree (s : State) : Res State := do
  let s ← readPrefixCode s.distanceAlphabet s
  return { s with htreeD := s.htreeD ++ [s.work.lens] }

/-- The tree groups (R154, R157). -/
def treeGroups (s : State) : Res State := do
  let s ← allocate .treeGroups .allocTreeGroups s
  let s ← iterate s.ntreesL literalTree { s with htreeL := [], htreeI := [], htreeD := [] }
  let s ← iterate s.trackerI.nbltypes commandTree s
  iterate s.ntreesD distanceTree s

/-- `SETUP` (R141, R155, R156). -/
def opSetup (s : State) : Res State := do
  let s ← blockHeader .L s
  let s ← blockHeader .I s
  let s ← blockHeader .D s
  let s ← distanceParameters s
  let s ← contextModes s
  let s ← literalMap s
  let s ← distanceMap s
  let s ← treeGroups s
  return ({ s with cmdPhase := .cmdBegin }.goto .commandLoop).rest

/-- The meaning of SETUP (42_metablock.md R141). -/
def execSetup (s : State) : Answer State := during [.compressedSetup] s (opSetup s)

/-! ### Headers and bodies (42_metablock.md R128 to R140) -/

/-- `STREAM_HEADER`. At the start of the call the size of a caller's dictionary is checked, then a zero-byte input may end
the decode at once, then the window size is read (R128; 44_dictionary_transforms.md R196; 70_reset_and_hazards.md R231,
R232; log entry 7). -/
def opStreamHeader (s : State) : Res State :=
  match s.dict with
  | some d =>
    if d.size = Config.dictSize then header s else raise .formatDictionary "invalid dictionary size" s
  | none => header s
where
  header (s : State) : Res State :=
    if s.inp.size = 0 ∧ s.params.emptyInputOk = true then .ok (s.goto .done) else runElement (.field .wbits) s

/-- The meaning of STREAM_HEADER (R128). -/
def execStreamHeader (s : State) : Answer State := during [.streamHeader] s (opStreamHeader s)

/-- `MHDR` (R132 to R136). -/
def opMhdr (s : State) : Res State := do
  let s ← runElement (.field .mhdr) s
  if s.isLast ∧ s.isLastEmpty then .ok s
  else do
    let s ← runElement (.field .mnibbles) s
    if s.isMetadata then .ok s
    else do
      let s ← iterate s.work.nibbles (runElement (.field .mlen)) s
      let s ← if s.isLast then lastIsCompressed s else runElement (.field .isUncompressed) s
      return s.rest

/-- The meaning of MHDR (R132). -/
def execMhdr (s : State) : Answer State := during [.metaBlockHeader] s (opMhdr s)

/-- `METADATA` (R137, R138). -/
def opMetadata (s : State) : Res State := do
  let s ← runElement (.field .reserved) s
  let s ← runElement (.field .mskipbytes) s
  let s ← iterate s.work.skb (runElement (.field .mskiplen)) s
  let n := if s.work.skb = 0 then 0 else s.work.acc + 1
  let s ← runElement (.padding .interior s.padBits) s
  let s ← skipBytes n s
  let s ← endOfMetaBlock s
  return s.rest

/-- The meaning of METADATA (R137). -/
def execMetadata (s : State) : Answer State := during [.metadata] s (opMetadata s)

/-- `UNCOMPRESSED` (R139). -/
def opUncompressed (s : State) : Res State := do
  let s ← runElement (.padding .interior s.padBits) s
  let s ← readBytes s.mlen s
  endOfMetaBlock { s with remaining := 0 }

/-- The meaning of UNCOMPRESSED (R139). -/
def execUncompressed (s : State) : Answer State := during [.uncompressedBody] s (opUncompressed s)

/-! ### The command loop (43_command_loop.md; 44_dictionary_transforms.md R190) -/

/-- `CMD` (R164 to R170). -/
def opCmd (s : State) : Res State := do
  let s ← countSymbol .I s
  runSymbol .command s.commandCode s

/-- The meaning of CMD (R164). -/
def execCmd (s : State) : Answer State := duringPhase .cmdBegin s (opCmd s)

/-- `LIT` (R171, R172). -/
def opLit (s : State) : Res State := do
  let s ← countSymbol .L s
  runSymbol .literal s.literalCode s

/-- The meaning of LIT (R171). -/
def execLit (s : State) : Answer State := duringPhase .insert s (opLit s)

/-- `DIST`: the implicit distance reads nothing and changes no count (R174); an explicit one is a distance symbol
(R175 to R177). -/
def opDist (s : State) : Res State :=
  if s.implicitD0 then .ok (resolve 0 s.distRing.d0 s)
  else do
    let s ← countSymbol .D s
    runSymbol (.distance s.ndirect) s.distanceCode s

/-- The meaning of DIST (R174). -/
def execDist (s : State) : Answer State := duringPhase .distance s (opDist s)

/-- Whether the resolved distance is a dictionary reference: it exceeds the maximum backward distance (R178). -/
def State.beyond (s : State) : Bool := decide ((s.maxDist : Int) < s.distance)

/-- `COPY`: the ring update, the overrun check, the copy (R179 to R184). -/
def opCopy (s : State) : Res State := do
  let s := if s.dcode = 0 then s else { s with distRing := s.distRing.push s.distance.toNat }
  if s.remaining < s.copyLen then raise .formatBlockLength2 "copy past meta-block end" s
  else do
    let s ← copyBackward s.distance.toNat s.copyLen s
    endOfCommand { s with remaining := s.remaining - s.copyLen }

/-- The meaning of COPY (R181): enabled in the copy phase for a distance within the maximum backward distance (R178). -/
def execCopy (s : State) : Answer State :=
  if s.beyond then .fault .notEnabled else duringPhase .copy s (opCopy s)

/-- `DICT` (44_dictionary_transforms.md R190 to R194, R208, R209). -/
def opDict (s : State) : Res State :=
  if s.dictAvailable = false then raise .dictionaryNotSet "no dictionary configured" s
  else if s.copyLen < 4 ∨ 24 < s.copyLen then raise .formatDictionary "bad dictionary word length" s
  else do
    let s := { s with work := { s.work with wordId := (s.distance - s.maxDist - 1).toNat } }
    let s ← runElement (.entry .dictBucket s.copyLen) s
    let s ← runElement (.entry .transform s.work.tid) s
    let bytes := s.work.word
    if s.remaining < bytes.length then raise .formatBlockLength2 "word past meta-block end" s
    else do
      let s ← endOfCommand { s.appendAll bytes with remaining := s.remaining - bytes.length }
      return s.rest

/-- The meaning of DICT (44_dictionary_transforms.md R190): enabled in the copy phase for a distance beyond the maximum
backward distance (43_command_loop.md R178). -/
def execDict (s : State) : Answer State :=
  if s.beyond then duringPhase .copy s (opDict s) else .fault .notEnabled

end Sys2Proof.Machine
end

