-- ==== Sys2Proof/Machine/Dispatch.lean ====
section
/-! DEFINITION. The dispatch: one arm for each row of spec/opcode_table.json. -/

namespace Sys2Proof.Machine

def exec (i : Instr) (s : State) : Host.Outcome State Fault Refusal :=
  match i with
  | .streamHeader => Sys2Proof.Machine.execStreamHeader s
  | .mhdr => Sys2Proof.Machine.execMhdr s
  | .metadata => Sys2Proof.Machine.execMetadata s
  | .uncompressed => Sys2Proof.Machine.execUncompressed s
  | .setup => Sys2Proof.Machine.execSetup s
  | .cmd => Sys2Proof.Machine.execCmd s
  | .lit => Sys2Proof.Machine.execLit s
  | .dist => Sys2Proof.Machine.execDist s
  | .copy => Sys2Proof.Machine.execCopy s
  | .dict => Sys2Proof.Machine.execDict s
  | .wbits16 => Sys2Proof.Machine.execWbits16 s
  | .wbits18 => Sys2Proof.Machine.execWbits18 s
  | .wbits19 => Sys2Proof.Machine.execWbits19 s
  | .wbits20 => Sys2Proof.Machine.execWbits20 s
  | .wbits21 => Sys2Proof.Machine.execWbits21 s
  | .wbits22 => Sys2Proof.Machine.execWbits22 s
  | .wbits23 => Sys2Proof.Machine.execWbits23 s
  | .wbits24 => Sys2Proof.Machine.execWbits24 s
  | .wbits17 => Sys2Proof.Machine.execWbits17 s
  | .wbitsLarge => Sys2Proof.Machine.execWbitsLarge s
  | .wbits10 => Sys2Proof.Machine.execWbits10 s
  | .wbits11 => Sys2Proof.Machine.execWbits11 s
  | .wbits12 => Sys2Proof.Machine.execWbits12 s
  | .wbits13 => Sys2Proof.Machine.execWbits13 s
  | .wbits14 => Sys2Proof.Machine.execWbits14 s
  | .wbits15 => Sys2Proof.Machine.execWbits15 s
  | .mhdrLast1Empty1 => Sys2Proof.Machine.execMhdrLast1Empty1 s
  | .mhdrLast1Empty0 => Sys2Proof.Machine.execMhdrLast1Empty0 s
  | .mhdrLast0 => Sys2Proof.Machine.execMhdrLast0 s
  | .mnibbles0 => Sys2Proof.Machine.execMnibbles0 s
  | .mnibbles1 => Sys2Proof.Machine.execMnibbles1 s
  | .mnibbles2 => Sys2Proof.Machine.execMnibbles2 s
  | .mnibbles3 => Sys2Proof.Machine.execMnibbles3 s
  | .mlenNibble x => Sys2Proof.Machine.execMlenNibble x s
  | .isuncompressed0 => Sys2Proof.Machine.execIsuncompressed0 s
  | .isuncompressed1 => Sys2Proof.Machine.execIsuncompressed1 s
  | .metadataReserved0 => Sys2Proof.Machine.execMetadataReserved0 s
  | .metadataReserved1 => Sys2Proof.Machine.execMetadataReserved1 s
  | .mskipbytes0 => Sys2Proof.Machine.execMskipbytes0 s
  | .mskipbytes1 => Sys2Proof.Machine.execMskipbytes1 s
  | .mskipbytes2 => Sys2Proof.Machine.execMskipbytes2 s
  | .mskipbytes3 => Sys2Proof.Machine.execMskipbytes3 s
  | .mskiplenByte b => Sys2Proof.Machine.execMskiplenByte b s
  | .pad k n v => Sys2Proof.Machine.execPad k n v s
  | .varlen0 => Sys2Proof.Machine.execVarlen0 s
  | .varlen1 => Sys2Proof.Machine.execVarlen1 s
  | .varlenN1 x => Sys2Proof.Machine.execVarlenN1 x s
  | .varlenN2 x => Sys2Proof.Machine.execVarlenN2 x s
  | .varlenN3 x => Sys2Proof.Machine.execVarlenN3 x s
  | .varlenN4 x => Sys2Proof.Machine.execVarlenN4 x s
  | .varlenN5 x => Sys2Proof.Machine.execVarlenN5 x s
  | .varlenN6 x => Sys2Proof.Machine.execVarlenN6 x s
  | .varlenN7 x => Sys2Proof.Machine.execVarlenN7 x s
  | .npostfix0 => Sys2Proof.Machine.execNpostfix0 s
  | .npostfix1 => Sys2Proof.Machine.execNpostfix1 s
  | .npostfix2 => Sys2Proof.Machine.execNpostfix2 s
  | .npostfix3 => Sys2Proof.Machine.execNpostfix3 s
  | .ndirect x => Sys2Proof.Machine.execNdirect x s
  | .cmodeLsb6 => Sys2Proof.Machine.execCmodeLsb6 s
  | .cmodeMsb6 => Sys2Proof.Machine.execCmodeMsb6 s
  | .cmodeUtf8 => Sys2Proof.Machine.execCmodeUtf8 s
  | .cmodeSigned => Sys2Proof.Machine.execCmodeSigned s
  | .cmapRlemax0 => Sys2Proof.Machine.execCmapRlemax0 s
  | .cmapRlemax x => Sys2Proof.Machine.execCmapRlemax x s
  | .cmapImtf0 => Sys2Proof.Machine.execCmapImtf0 s
  | .cmapImtf1 => Sys2Proof.Machine.execCmapImtf1 s
  | .hskip0 => Sys2Proof.Machine.execHskip0 s
  | .hskip1 => Sys2Proof.Machine.execHskip1 s
  | .hskip2 => Sys2Proof.Machine.execHskip2 s
  | .hskip3 => Sys2Proof.Machine.execHskip3 s
  | .nsym1 => Sys2Proof.Machine.execNsym1 s
  | .nsym2 => Sys2Proof.Machine.execNsym2 s
  | .nsym3 => Sys2Proof.Machine.execNsym3 s
  | .nsym4 => Sys2Proof.Machine.execNsym4 s
  | .treeselect0 => Sys2Proof.Machine.execTreeselect0 s
  | .treeselect1 => Sys2Proof.Machine.execTreeselect1 s
  | .clcl0 => Sys2Proof.Machine.execClcl0 s
  | .clcl3 => Sys2Proof.Machine.execClcl3 s
  | .clcl4 => Sys2Proof.Machine.execClcl4 s
  | .clcl2 => Sys2Proof.Machine.execClcl2 s
  | .clcl1 => Sys2Proof.Machine.execClcl1 s
  | .clcl5 => Sys2Proof.Machine.execClcl5 s
  | .clsym0 => Sys2Proof.Machine.execClsym0 s
  | .clsym1 => Sys2Proof.Machine.execClsym1 s
  | .clsym2 => Sys2Proof.Machine.execClsym2 s
  | .clsym3 => Sys2Proof.Machine.execClsym3 s
  | .clsym4 => Sys2Proof.Machine.execClsym4 s
  | .clsym5 => Sys2Proof.Machine.execClsym5 s
  | .clsym6 => Sys2Proof.Machine.execClsym6 s
  | .clsym7 => Sys2Proof.Machine.execClsym7 s
  | .clsym8 => Sys2Proof.Machine.execClsym8 s
  | .clsym9 => Sys2Proof.Machine.execClsym9 s
  | .clsym10 => Sys2Proof.Machine.execClsym10 s
  | .clsym11 => Sys2Proof.Machine.execClsym11 s
  | .clsym12 => Sys2Proof.Machine.execClsym12 s
  | .clsym13 => Sys2Proof.Machine.execClsym13 s
  | .clsym14 => Sys2Proof.Machine.execClsym14 s
  | .clsym15 => Sys2Proof.Machine.execClsym15 s
  | .clsym16 => Sys2Proof.Machine.execClsym16 s
  | .clsym17 => Sys2Proof.Machine.execClsym17 s
  | .btype0 c => Sys2Proof.Machine.execBtype0 c s
  | .btype1 c => Sys2Proof.Machine.execBtype1 c s
  | .btypeT c t => Sys2Proof.Machine.execBtypeT c t s
  | .blen0 c => Sys2Proof.Machine.execBlen0 c s
  | .blen1 c => Sys2Proof.Machine.execBlen1 c s
  | .blen2 c => Sys2Proof.Machine.execBlen2 c s
  | .blen3 c => Sys2Proof.Machine.execBlen3 c s
  | .blen4 c => Sys2Proof.Machine.execBlen4 c s
  | .blen5 c => Sys2Proof.Machine.execBlen5 c s
  | .blen6 c => Sys2Proof.Machine.execBlen6 c s
  | .blen7 c => Sys2Proof.Machine.execBlen7 c s
  | .blen8 c => Sys2Proof.Machine.execBlen8 c s
  | .blen9 c => Sys2Proof.Machine.execBlen9 c s
  | .blen10 c => Sys2Proof.Machine.execBlen10 c s
  | .blen11 c => Sys2Proof.Machine.execBlen11 c s
  | .blen12 c => Sys2Proof.Machine.execBlen12 c s
  | .blen13 c => Sys2Proof.Machine.execBlen13 c s
  | .blen14 c => Sys2Proof.Machine.execBlen14 c s
  | .blen15 c => Sys2Proof.Machine.execBlen15 c s
  | .blen16 c => Sys2Proof.Machine.execBlen16 c s
  | .blen17 c => Sys2Proof.Machine.execBlen17 c s
  | .blen18 c => Sys2Proof.Machine.execBlen18 c s
  | .blen19 c => Sys2Proof.Machine.execBlen19 c s
  | .blen20 c => Sys2Proof.Machine.execBlen20 c s
  | .blen21 c => Sys2Proof.Machine.execBlen21 c s
  | .blen22 c => Sys2Proof.Machine.execBlen22 c s
  | .blen23 c => Sys2Proof.Machine.execBlen23 c s
  | .blen24 c => Sys2Proof.Machine.execBlen24 c s
  | .blen25 c => Sys2Proof.Machine.execBlen25 c s
  | .cmapsym0 => Sys2Proof.Machine.execCmapsym0 s
  | .cmapsymRun v => Sys2Proof.Machine.execCmapsymRun v s
  | .cmapsymValue v => Sys2Proof.Machine.execCmapsymValue v s
  | .litB b => Sys2Proof.Machine.execLitB b s
  | .cmdCell0 sym => Sys2Proof.Machine.execCmdCell0 sym s
  | .cmdCell1 sym => Sys2Proof.Machine.execCmdCell1 sym s
  | .cmdCell2 sym => Sys2Proof.Machine.execCmdCell2 sym s
  | .cmdCell3 sym => Sys2Proof.Machine.execCmdCell3 sym s
  | .cmdCell4 sym => Sys2Proof.Machine.execCmdCell4 sym s
  | .cmdCell5 sym => Sys2Proof.Machine.execCmdCell5 sym s
  | .cmdCell6 sym => Sys2Proof.Machine.execCmdCell6 sym s
  | .cmdCell7 sym => Sys2Proof.Machine.execCmdCell7 sym s
  | .cmdCell8 sym => Sys2Proof.Machine.execCmdCell8 sym s
  | .cmdCell9 sym => Sys2Proof.Machine.execCmdCell9 sym s
  | .cmdCell10 sym => Sys2Proof.Machine.execCmdCell10 sym s
  | .inscode0 => Sys2Proof.Machine.execInscode0 s
  | .inscode1 => Sys2Proof.Machine.execInscode1 s
  | .inscode2 => Sys2Proof.Machine.execInscode2 s
  | .inscode3 => Sys2Proof.Machine.execInscode3 s
  | .inscode4 => Sys2Proof.Machine.execInscode4 s
  | .inscode5 => Sys2Proof.Machine.execInscode5 s
  | .inscode6 => Sys2Proof.Machine.execInscode6 s
  | .inscode7 => Sys2Proof.Machine.execInscode7 s
  | .inscode8 => Sys2Proof.Machine.execInscode8 s
  | .inscode9 => Sys2Proof.Machine.execInscode9 s
  | .inscode10 => Sys2Proof.Machine.execInscode10 s
  | .inscode11 => Sys2Proof.Machine.execInscode11 s
  | .inscode12 => Sys2Proof.Machine.execInscode12 s
  | .inscode13 => Sys2Proof.Machine.execInscode13 s
  | .inscode14 => Sys2Proof.Machine.execInscode14 s
  | .inscode15 => Sys2Proof.Machine.execInscode15 s
  | .inscode16 => Sys2Proof.Machine.execInscode16 s
  | .inscode17 => Sys2Proof.Machine.execInscode17 s
  | .inscode18 => Sys2Proof.Machine.execInscode18 s
  | .inscode19 => Sys2Proof.Machine.execInscode19 s
  | .inscode20 => Sys2Proof.Machine.execInscode20 s
  | .inscode21 => Sys2Proof.Machine.execInscode21 s
  | .inscode22 => Sys2Proof.Machine.execInscode22 s
  | .inscode23 => Sys2Proof.Machine.execInscode23 s
  | .copycode0 => Sys2Proof.Machine.execCopycode0 s
  | .copycode1 => Sys2Proof.Machine.execCopycode1 s
  | .copycode2 => Sys2Proof.Machine.execCopycode2 s
  | .copycode3 => Sys2Proof.Machine.execCopycode3 s
  | .copycode4 => Sys2Proof.Machine.execCopycode4 s
  | .copycode5 => Sys2Proof.Machine.execCopycode5 s
  | .copycode6 => Sys2Proof.Machine.execCopycode6 s
  | .copycode7 => Sys2Proof.Machine.execCopycode7 s
  | .copycode8 => Sys2Proof.Machine.execCopycode8 s
  | .copycode9 => Sys2Proof.Machine.execCopycode9 s
  | .copycode10 => Sys2Proof.Machine.execCopycode10 s
  | .copycode11 => Sys2Proof.Machine.execCopycode11 s
  | .copycode12 => Sys2Proof.Machine.execCopycode12 s
  | .copycode13 => Sys2Proof.Machine.execCopycode13 s
  | .copycode14 => Sys2Proof.Machine.execCopycode14 s
  | .copycode15 => Sys2Proof.Machine.execCopycode15 s
  | .copycode16 => Sys2Proof.Machine.execCopycode16 s
  | .copycode17 => Sys2Proof.Machine.execCopycode17 s
  | .copycode18 => Sys2Proof.Machine.execCopycode18 s
  | .copycode19 => Sys2Proof.Machine.execCopycode19 s
  | .copycode20 => Sys2Proof.Machine.execCopycode20 s
  | .copycode21 => Sys2Proof.Machine.execCopycode21 s
  | .copycode22 => Sys2Proof.Machine.execCopycode22 s
  | .copycode23 => Sys2Proof.Machine.execCopycode23 s
  | .dist0 => Sys2Proof.Machine.execDist0 s
  | .dist1 => Sys2Proof.Machine.execDist1 s
  | .dist2 => Sys2Proof.Machine.execDist2 s
  | .dist3 => Sys2Proof.Machine.execDist3 s
  | .dist4 => Sys2Proof.Machine.execDist4 s
  | .dist5 => Sys2Proof.Machine.execDist5 s
  | .dist6 => Sys2Proof.Machine.execDist6 s
  | .dist7 => Sys2Proof.Machine.execDist7 s
  | .dist8 => Sys2Proof.Machine.execDist8 s
  | .dist9 => Sys2Proof.Machine.execDist9 s
  | .dist10 => Sys2Proof.Machine.execDist10 s
  | .dist11 => Sys2Proof.Machine.execDist11 s
  | .dist12 => Sys2Proof.Machine.execDist12 s
  | .dist13 => Sys2Proof.Machine.execDist13 s
  | .dist14 => Sys2Proof.Machine.execDist14 s
  | .dist15 => Sys2Proof.Machine.execDist15 s
  | .distDirect code => Sys2Proof.Machine.execDistDirect code s
  | .distLong code => Sys2Proof.Machine.execDistLong code s
  | .topIdentity => Sys2Proof.Machine.execTopIdentity s
  | .topOmitLast1 => Sys2Proof.Machine.execTopOmitLast1 s
  | .topOmitLast2 => Sys2Proof.Machine.execTopOmitLast2 s
  | .topOmitLast3 => Sys2Proof.Machine.execTopOmitLast3 s
  | .topOmitLast4 => Sys2Proof.Machine.execTopOmitLast4 s
  | .topOmitLast5 => Sys2Proof.Machine.execTopOmitLast5 s
  | .topOmitLast6 => Sys2Proof.Machine.execTopOmitLast6 s
  | .topOmitLast7 => Sys2Proof.Machine.execTopOmitLast7 s
  | .topOmitLast8 => Sys2Proof.Machine.execTopOmitLast8 s
  | .topOmitLast9 => Sys2Proof.Machine.execTopOmitLast9 s
  | .topUppercaseFirst => Sys2Proof.Machine.execTopUppercaseFirst s
  | .topUppercaseAll => Sys2Proof.Machine.execTopUppercaseAll s
  | .topOmitFirst1 => Sys2Proof.Machine.execTopOmitFirst1 s
  | .topOmitFirst2 => Sys2Proof.Machine.execTopOmitFirst2 s
  | .topOmitFirst3 => Sys2Proof.Machine.execTopOmitFirst3 s
  | .topOmitFirst4 => Sys2Proof.Machine.execTopOmitFirst4 s
  | .topOmitFirst5 => Sys2Proof.Machine.execTopOmitFirst5 s
  | .topOmitFirst6 => Sys2Proof.Machine.execTopOmitFirst6 s
  | .topOmitFirst7 => Sys2Proof.Machine.execTopOmitFirst7 s
  | .topOmitFirst8 => Sys2Proof.Machine.execTopOmitFirst8 s
  | .topOmitFirst9 => Sys2Proof.Machine.execTopOmitFirst9 s
  | .topShiftFirst param => Sys2Proof.Machine.execTopShiftFirst param s
  | .topShiftAll param => Sys2Proof.Machine.execTopShiftAll param s
  | .transformReserved tid => Sys2Proof.Machine.execTransformReserved tid s
  | .transform0 => Sys2Proof.Machine.execTransform0 s
  | .transform1 => Sys2Proof.Machine.execTransform1 s
  | .transform2 => Sys2Proof.Machine.execTransform2 s
  | .transform3 => Sys2Proof.Machine.execTransform3 s
  | .transform4 => Sys2Proof.Machine.execTransform4 s
  | .transform5 => Sys2Proof.Machine.execTransform5 s
  | .transform6 => Sys2Proof.Machine.execTransform6 s
  | .transform7 => Sys2Proof.Machine.execTransform7 s
  | .transform8 => Sys2Proof.Machine.execTransform8 s
  | .transform9 => Sys2Proof.Machine.execTransform9 s
  | .transform10 => Sys2Proof.Machine.execTransform10 s
  | .transform11 => Sys2Proof.Machine.execTransform11 s
  | .transform12 => Sys2Proof.Machine.execTransform12 s
  | .transform13 => Sys2Proof.Machine.execTransform13 s
  | .transform14 => Sys2Proof.Machine.execTransform14 s
  | .transform15 => Sys2Proof.Machine.execTransform15 s
  | .transform16 => Sys2Proof.Machine.execTransform16 s
  | .transform17 => Sys2Proof.Machine.execTransform17 s
  | .transform18 => Sys2Proof.Machine.execTransform18 s
  | .transform19 => Sys2Proof.Machine.execTransform19 s
  | .transform20 => Sys2Proof.Machine.execTransform20 s
  | .transform21 => Sys2Proof.Machine.execTransform21 s
  | .transform22 => Sys2Proof.Machine.execTransform22 s
  | .transform23 => Sys2Proof.Machine.execTransform23 s
  | .transform24 => Sys2Proof.Machine.execTransform24 s
  | .transform25 => Sys2Proof.Machine.execTransform25 s
  | .transform26 => Sys2Proof.Machine.execTransform26 s
  | .transform27 => Sys2Proof.Machine.execTransform27 s
  | .transform28 => Sys2Proof.Machine.execTransform28 s
  | .transform29 => Sys2Proof.Machine.execTransform29 s
  | .transform30 => Sys2Proof.Machine.execTransform30 s
  | .transform31 => Sys2Proof.Machine.execTransform31 s
  | .transform32 => Sys2Proof.Machine.execTransform32 s
  | .transform33 => Sys2Proof.Machine.execTransform33 s
  | .transform34 => Sys2Proof.Machine.execTransform34 s
  | .transform35 => Sys2Proof.Machine.execTransform35 s
  | .transform36 => Sys2Proof.Machine.execTransform36 s
  | .transform37 => Sys2Proof.Machine.execTransform37 s
  | .transform38 => Sys2Proof.Machine.execTransform38 s
  | .transform39 => Sys2Proof.Machine.execTransform39 s
  | .transform40 => Sys2Proof.Machine.execTransform40 s
  | .transform41 => Sys2Proof.Machine.execTransform41 s
  | .transform42 => Sys2Proof.Machine.execTransform42 s
  | .transform43 => Sys2Proof.Machine.execTransform43 s
  | .transform44 => Sys2Proof.Machine.execTransform44 s
  | .transform45 => Sys2Proof.Machine.execTransform45 s
  | .transform46 => Sys2Proof.Machine.execTransform46 s
  | .transform47 => Sys2Proof.Machine.execTransform47 s
  | .transform48 => Sys2Proof.Machine.execTransform48 s
  | .transform49 => Sys2Proof.Machine.execTransform49 s
  | .transform50 => Sys2Proof.Machine.execTransform50 s
  | .transform51 => Sys2Proof.Machine.execTransform51 s
  | .transform52 => Sys2Proof.Machine.execTransform52 s
  | .transform53 => Sys2Proof.Machine.execTransform53 s
  | .transform54 => Sys2Proof.Machine.execTransform54 s
  | .transform55 => Sys2Proof.Machine.execTransform55 s
  | .transform56 => Sys2Proof.Machine.execTransform56 s
  | .transform57 => Sys2Proof.Machine.execTransform57 s
  | .transform58 => Sys2Proof.Machine.execTransform58 s
  | .transform59 => Sys2Proof.Machine.execTransform59 s
  | .transform60 => Sys2Proof.Machine.execTransform60 s
  | .transform61 => Sys2Proof.Machine.execTransform61 s
  | .transform62 => Sys2Proof.Machine.execTransform62 s
  | .transform63 => Sys2Proof.Machine.execTransform63 s
  | .transform64 => Sys2Proof.Machine.execTransform64 s
  | .transform65 => Sys2Proof.Machine.execTransform65 s
  | .transform66 => Sys2Proof.Machine.execTransform66 s
  | .transform67 => Sys2Proof.Machine.execTransform67 s
  | .transform68 => Sys2Proof.Machine.execTransform68 s
  | .transform69 => Sys2Proof.Machine.execTransform69 s
  | .transform70 => Sys2Proof.Machine.execTransform70 s
  | .transform71 => Sys2Proof.Machine.execTransform71 s
  | .transform72 => Sys2Proof.Machine.execTransform72 s
  | .transform73 => Sys2Proof.Machine.execTransform73 s
  | .transform74 => Sys2Proof.Machine.execTransform74 s
  | .transform75 => Sys2Proof.Machine.execTransform75 s
  | .transform76 => Sys2Proof.Machine.execTransform76 s
  | .transform77 => Sys2Proof.Machine.execTransform77 s
  | .transform78 => Sys2Proof.Machine.execTransform78 s
  | .transform79 => Sys2Proof.Machine.execTransform79 s
  | .transform80 => Sys2Proof.Machine.execTransform80 s
  | .transform81 => Sys2Proof.Machine.execTransform81 s
  | .transform82 => Sys2Proof.Machine.execTransform82 s
  | .transform83 => Sys2Proof.Machine.execTransform83 s
  | .transform84 => Sys2Proof.Machine.execTransform84 s
  | .transform85 => Sys2Proof.Machine.execTransform85 s
  | .transform86 => Sys2Proof.Machine.execTransform86 s
  | .transform87 => Sys2Proof.Machine.execTransform87 s
  | .transform88 => Sys2Proof.Machine.execTransform88 s
  | .transform89 => Sys2Proof.Machine.execTransform89 s
  | .transform90 => Sys2Proof.Machine.execTransform90 s
  | .transform91 => Sys2Proof.Machine.execTransform91 s
  | .transform92 => Sys2Proof.Machine.execTransform92 s
  | .transform93 => Sys2Proof.Machine.execTransform93 s
  | .transform94 => Sys2Proof.Machine.execTransform94 s
  | .transform95 => Sys2Proof.Machine.execTransform95 s
  | .transform96 => Sys2Proof.Machine.execTransform96 s
  | .transform97 => Sys2Proof.Machine.execTransform97 s
  | .transform98 => Sys2Proof.Machine.execTransform98 s
  | .transform99 => Sys2Proof.Machine.execTransform99 s
  | .transform100 => Sys2Proof.Machine.execTransform100 s
  | .transform101 => Sys2Proof.Machine.execTransform101 s
  | .transform102 => Sys2Proof.Machine.execTransform102 s
  | .transform103 => Sys2Proof.Machine.execTransform103 s
  | .transform104 => Sys2Proof.Machine.execTransform104 s
  | .transform105 => Sys2Proof.Machine.execTransform105 s
  | .transform106 => Sys2Proof.Machine.execTransform106 s
  | .transform107 => Sys2Proof.Machine.execTransform107 s
  | .transform108 => Sys2Proof.Machine.execTransform108 s
  | .transform109 => Sys2Proof.Machine.execTransform109 s
  | .transform110 => Sys2Proof.Machine.execTransform110 s
  | .transform111 => Sys2Proof.Machine.execTransform111 s
  | .transform112 => Sys2Proof.Machine.execTransform112 s
  | .transform113 => Sys2Proof.Machine.execTransform113 s
  | .transform114 => Sys2Proof.Machine.execTransform114 s
  | .transform115 => Sys2Proof.Machine.execTransform115 s
  | .transform116 => Sys2Proof.Machine.execTransform116 s
  | .transform117 => Sys2Proof.Machine.execTransform117 s
  | .transform118 => Sys2Proof.Machine.execTransform118 s
  | .transform119 => Sys2Proof.Machine.execTransform119 s
  | .transform120 => Sys2Proof.Machine.execTransform120 s
  | .dictbucket4 => Sys2Proof.Machine.execDictbucket4 s
  | .dictbucket5 => Sys2Proof.Machine.execDictbucket5 s
  | .dictbucket6 => Sys2Proof.Machine.execDictbucket6 s
  | .dictbucket7 => Sys2Proof.Machine.execDictbucket7 s
  | .dictbucket8 => Sys2Proof.Machine.execDictbucket8 s
  | .dictbucket9 => Sys2Proof.Machine.execDictbucket9 s
  | .dictbucket10 => Sys2Proof.Machine.execDictbucket10 s
  | .dictbucket11 => Sys2Proof.Machine.execDictbucket11 s
  | .dictbucket12 => Sys2Proof.Machine.execDictbucket12 s
  | .dictbucket13 => Sys2Proof.Machine.execDictbucket13 s
  | .dictbucket14 => Sys2Proof.Machine.execDictbucket14 s
  | .dictbucket15 => Sys2Proof.Machine.execDictbucket15 s
  | .dictbucket16 => Sys2Proof.Machine.execDictbucket16 s
  | .dictbucket17 => Sys2Proof.Machine.execDictbucket17 s
  | .dictbucket18 => Sys2Proof.Machine.execDictbucket18 s
  | .dictbucket19 => Sys2Proof.Machine.execDictbucket19 s
  | .dictbucket20 => Sys2Proof.Machine.execDictbucket20 s
  | .dictbucket21 => Sys2Proof.Machine.execDictbucket21 s
  | .dictbucket22 => Sys2Proof.Machine.execDictbucket22 s
  | .dictbucket23 => Sys2Proof.Machine.execDictbucket23 s
  | .dictbucket24 => Sys2Proof.Machine.execDictbucket24 s

end Sys2Proof.Machine
end

