-- ==== Sys2Proof/Machine/Step.lean ====
section
/-! DEFINITION. One step: the operation that the decoder state enables, run. -/

namespace Sys2Proof.Machine

/-- The place of the grammar at which the decoder stands between operations. -/
def State.place (s : State) : Ctx := .operation s.state s.cmdPhase s.beyond

/-- The operation enabled in `s` (10_state.md R20, R22; 43_command_loop.md R161, R178). -/
def State.fetch (s : State) : Except DecodeError Instr :=
  match decode s.place s.window with
  | .ok (i, _) => .ok i
  | .error e => .error e

/-- One step. In Done and Error no operation is enabled and nothing changes again (10_state.md R20; 60_exceptions.md R213;
log entry 8). -/
def step (s : State) : Host.Outcome State Fault Refusal :=
  match s.fetch with
  | .ok i => exec i s
  | .error _ => .next s

/-- `s` with the instruction of the `nbits` bits `w` stored at the bit cursor, the bits above it zero up to the longest
element, and the decoder at the start of a stream, where those bits are read (log entry 5). -/
def State.withFetchWord (s : State) (nbits w : Nat) : State :=
  let n := max nbits longestElement
  let total := max (s.bitpos + n) s.inputBits
  let bits := s.inp.bits 0 s.bitpos ++ bitsOf n (w % 2 ^ nbits) ++ s.inp.bits (s.bitpos + n) (total - (s.bitpos + n))
  { s with state := .streamHeader, inp := Memory.ofBytes (bytesOfBits ((total + 7) / 8) bits) }

end Sys2Proof.Machine
end

