-- ==== Sys2Proof/Machine/Call.lean ====
section
/-! DEFINITION. The host interface (60_exceptions.md R227 to R229): the call that starts a decode, the result it returns, the
block's internal step vocabulary, and the classes and suggested codes of the error kinds. -/

namespace Sys2Proof.Machine

/-! ### Errors -/

/-- The classes of error (60_exceptions.md R214). -/
inductive ErrorClass
  | format | argument | allocation | unknown
  deriving DecidableEq, Repr

/-- The class of a kind (60_exceptions.md R214). -/
def classOf (k : ErrorKind) : ErrorClass :=
  match k with
  | .formatExuberantNibble | .formatReserved | .formatExuberantMetaNibble | .formatSimpleHuffmanAlphabet
  | .formatSimpleHuffmanSame | .formatClSpace | .formatHuffmanSpace | .formatContextMapRepeat | .formatBlockLength1
  | .formatBlockLength2 | .formatTransform | .formatDictionary | .formatWindowBits | .formatPadding1 | .formatPadding2
  | .formatDistance => .format
  | .invalidArguments | .dictionaryNotSet => .argument
  | .allocContextModes | .allocTreeGroups | .allocContextMap | .allocRingBuffer1 | .allocRingBuffer2
  | .allocBlockTypeTrees => .allocation
  | .unreachable => .unknown

/-- The codes the spec suggests (60_exceptions.md R218). The machine does not use them: `Config.errorCode` stays free, and a
statement may only assume that it is this function. -/
def suggestedCode (k : ErrorKind) : Int :=
  match k with
  | .formatExuberantNibble => -1
  | .formatReserved => -2
  | .formatExuberantMetaNibble => -3
  | .formatSimpleHuffmanAlphabet => -4
  | .formatSimpleHuffmanSame => -5
  | .formatClSpace => -6
  | .formatHuffmanSpace => -7
  | .formatContextMapRepeat => -8
  | .formatBlockLength1 => -9
  | .formatBlockLength2 => -10
  | .formatTransform => -11
  | .formatDictionary => -12
  | .formatWindowBits => -13
  | .formatPadding1 => -14
  | .formatPadding2 => -15
  | .formatDistance => -16
  | .dictionaryNotSet => -19
  | .invalidArguments => -20
  | .allocContextModes => -21
  | .allocTreeGroups => -22
  | .allocContextMap => -25
  | .allocRingBuffer1 => -26
  | .allocRingBuffer2 => -27
  | .allocBlockTypeTrees => -30
  | .unreachable => -31

/-! ### The call -/

/-- The state a call starts from: the reset state, with the block's parameters, the caller's dictionary and the input in
place (60_exceptions.md R227; 70_reset_and_hazards.md R230, R231). -/
def State.start (ps : Params) (dict : Option (List Byte)) (input : List Byte) : State :=
  { State.reset with params := ps, dict := dict.map Memory.ofBytes, inp := Memory.ofBytes input }

/-- A decode has ended (70_reset_and_hazards.md R233). -/
def State.ended (s : State) : Bool := s.state == .done || s.state == .error

/-- What a call returns (60_exceptions.md R228). -/
inductive CallResult
  | ok (out : List Byte)
  | error (e : ErrRecord)
  | refused
  deriving DecidableEq, Repr

/-- The result of a decode that has ended: all of the output in Done, the record alone in Error (60_exceptions.md R212, R228;
70_reset_and_hazards.md R233). Nothing before that. -/
def State.result (s : State) : Option CallResult :=
  if s.state = .done then some (.ok s.out.bytes)
  else if s.state = .error then s.err.map .error
  else none

/-- `decompress`, given a bound on the number of steps: `none` where the decode has not ended within it
(60_exceptions.md R227, R228). -/
def decompress (ps : Params) (dict : Option (List Byte)) (input : List Byte) (steps : Nat) : Option CallResult :=
  match Sys2Proof.core.run steps (State.start ps dict input) with
  | .next s => s.result
  | .refused _ => some .refused
  | .fault _ => none

/-- The internal vocabulary of a step (10_state.md R41). `needsMoreOutput` is the same as `continue` here: output growth is
always possible (20_memory.md R58). -/
inductive StepReport
  | continue_ | needsMoreOutput | done | error (code : Int)
  deriving DecidableEq, Repr

/-- What a step that led to `s` reports (10_state.md R41). -/
def State.report (s : State) : StepReport :=
  match s.err with
  | some e => .error e.code
  | none => if s.state = .done then .done else .continue_

end Sys2Proof.Machine
end

