-- ==== Sys2Proof/Safety.lean ====
section
/-! DEFINITION. The terms that claims use: which prefix codes are valid, which states are sound, which transitions are
permitted, and the words in which a claim says that an instruction completes or raises. -/

namespace Sys2Proof

/-- The places of the grammar that can occur: padding of less than a byte, parameters in their range. -/
def Ctx.proper (c : Ctx) : Bool :=
  match c with
  | .padding _ n => decide (n < 8)
  | .symbol (.contextMap rlemax) _ => decide (rlemax ≤ 16)
  | .symbol (.distance ndirect) _ => decide (ndirect ≤ 120)
  | .symbol .codeLength _ | .symbol (.blockType _) _ | .symbol (.blockCount _) _ | .symbol .literal _
  | .symbol .command _ => true
  | .operation _ _ _ | .field _ | .entry _ _ => true

/-- The decoder state in whose operation a field is read (42_metablock.md R128 to R153; 41_prefix_codes.md R104 to R108). -/
def Field.readIn (f : Field) : DecState :=
  match f with
  | .wbits => .streamHeader
  | .mhdr | .mnibbles | .mlen | .isUncompressed => .metaBlockHeader
  | .reserved | .mskipbytes | .mskiplen => .metadata
  | .varlen | .npostfix | .ndirect | .cmode | .rlemax | .imtf | .hskip | .nsym | .treeSelect | .clcl => .compressedSetup

/-- The decoder state, and the phase of the command loop, in whose operation an element of a place is read: prefix codes and
context maps in SETUP, block counts in SETUP and at every block switch, the symbols and the table entries of a command each
in its phase, padding before a metadata or uncompressed body and at the end of a last meta-block (10_state.md R20, R22;
40_bitreader.md R98, R102; 42_metablock.md R128 to R154; 43_command_loop.md R161 to R177; 44_dictionary_transforms.md
R190). -/
def Ctx.readIn (c : Ctx) (st : DecState) (ph : CmdPhase) : Bool :=
  match c with
  | .operation _ _ _ => false
  | .field f => st == f.readIn
  | .padding .interior _ => st == .metadata || st == .uncompressedBody
  | .padding .final _ => st == .metaBlockHeader || st == .metadata || st == .commandLoop
  | .symbol .codeLength _ | .symbol (.contextMap _) _ => st == .compressedSetup
  | .symbol (.blockType _) _ => st == .commandLoop
  | .symbol (.blockCount _) _ => st == .compressedSetup || st == .commandLoop
  | .symbol .literal _ => st == .commandLoop && ph == .insert
  | .symbol .command _ | .entry .insertLength _ | .entry .copyLength _ => st == .commandLoop && ph == .cmdBegin
  | .symbol (.distance _) _ => st == .commandLoop && ph == .distance
  | .entry (.transformOp _) _ | .entry .transform _ | .entry .dictBucket _ => st == .commandLoop && ph == .copy

end Sys2Proof

namespace Sys2Proof.Machine

/-! ### Sound states -/

/-- The share of the code space that the used symbols take, in units of `2 ^ -15` (41_prefix_codes.md R117). -/
def kraft (T : PrefixCode) : Nat := (T.map fun l => if l = 0 then 0 else 2 ^ (15 - l)).sum

/-- A prefix code over an alphabet of size `A`: lengths of at most 15, and either one used symbol or Kraft equality
(41_prefix_codes.md R118). -/
def validCode (A : Nat) (T : PrefixCode) : Bool :=
  T.length == A && T.all (fun l => decide (l ≤ 15)) && ((oneSymbol T).isSome || kraft T == 32768)

/-- A block-type tracker between the operations of a compressed meta-block (10_state.md R30; 43_command_loop.md R163). -/
def Tracker.valid (k : Tracker) : Bool :=
  decide (1 ≤ k.nbltypes) && decide (k.nbltypes ≤ 256) && decide (k.btype < k.nbltypes) &&
  (k.nbltypes == 1 ||
    (decide (k.prevType < k.nbltypes) && validCode (k.nbltypes + 2) k.htreeBtype && validCode 26 k.htreeBlen))

/-- A context map of `size` entries over a group of `ntrees` codes, each over an alphabet of size `A` (10_state.md R33,
R34). -/
def validGroup (size ntrees A : Nat) (map : List Nat) (trees : List PrefixCode) : Bool :=
  map.length == size && decide (1 ≤ ntrees) && decide (ntrees ≤ 256) && map.all (fun t => decide (t < ntrees)) &&
  trees.length == ntrees && trees.all (validCode A)

/-- The tables of a compressed meta-block (10_state.md R30 to R34; 00_scope.md R9). -/
def State.tablesValid (s : State) : Bool :=
  s.trackerL.valid && s.trackerI.valid && s.trackerD.valid &&
  decide (s.npostfix ≤ 3) && decide (s.ndirect ≤ 120) && s.ndirect % 2 ^ s.npostfix == 0 &&
  s.cmode.length == s.trackerL.nbltypes &&
  validGroup (64 * s.trackerL.nbltypes) s.ntreesL 256 s.cmapL s.htreeL &&
  s.htreeI.length == s.trackerI.nbltypes && s.htreeI.all (validCode 704) &&
  validGroup (4 * s.trackerD.nbltypes) s.ntreesD s.distanceAlphabet s.cmapD s.htreeD

/-- The command registers in each phase of the command loop (10_state.md R22, R38, R39; 43_command_loop.md R168, R169, R176,
R177, R189). -/
def State.phaseValid (s : State) : Bool :=
  match s.cmdPhase with
  | .cmdBegin => true
  | .insert =>
    decide (1 ≤ s.insertLen) && decide (s.insertLen ≤ s.remaining) && decide (2 ≤ s.copyLen) && decide (s.distCtx ≤ 3)
  | .distance => decide (2 ≤ s.copyLen) && decide (s.distCtx ≤ 3)
  | .copy =>
    decide (2 ≤ s.copyLen) && decide (1 ≤ s.distance) && decide (s.dcode < s.distanceAlphabet) &&
    (decide (16 + s.ndirect ≤ s.dcode) || decide (s.distance ≤ max 120 (s.maxDist + 3)))

/-- What a ring entry can be: a reset value, or a distance that lay within the maximum backward distance when it was pushed
(43_command_loop.md R189). -/
def State.ringEntryValid (s : State) (d : Nat) : Bool := decide (1 ≤ d) && decide (d ≤ max 16 s.maxDist)

/-- The invariant of a decode: what holds of every state between two operations. -/
structure Sound (s : State) : Prop where
  /-- The input is in canonical form. -/
  inputCanonical : s.inp.wf = true
  /-- The output is in canonical form. -/
  outputCanonical : s.out.wf = true
  /-- A caller's dictionary is in canonical form. -/
  dictCanonical : ∀ d, s.dict = some d → d.wf = true
  /-- The cursor lies in the input or at its end (10_state.md R25). -/
  cursorInInput : s.bitpos ≤ s.inputBits
  /-- The four ring entries (R35). -/
  ringValid : s.ringEntryValid s.distRing.d0 = true ∧ s.ringEntryValid s.distRing.d1 = true ∧
    s.ringEntryValid s.distRing.d2 = true ∧ s.ringEntryValid s.distRing.d3 = true
  /-- There is an error record exactly in state Error (60_exceptions.md R211, R213). -/
  errorRecorded : s.err.isSome = true ↔ s.state = .error
  /-- The workspace is idle between operations. -/
  workIdle : s.work = .idle
  /-- Nothing is read or produced before the stream header (10_state.md R44). -/
  atStart : s.state = .streamHeader → s.bitpos = 0 ∧ s.out = []
  /-- After the stream header the window size is legal and the dictionary checked (42_metablock.md R130;
  44_dictionary_transforms.md R196). -/
  streamOpen : s.state ≠ .streamHeader → s.state ≠ .done → s.state ≠ .error →
    10 ≤ s.wbits ∧ s.wbits ≤ 24 ∧ ∀ d, s.dict = some d → d.size = Config.dictSize
  /-- A metadata body has its flag (42_metablock.md R133). -/
  inMetadata : s.state = .metadata → s.isMetadata = true
  /-- An uncompressed body has its whole length to produce and is never last (R135, R136, R139). -/
  inUncompressed : s.state = .uncompressedBody → s.isUncompressed = true ∧ s.isMetadata = false ∧ s.isLast = false ∧
    1 ≤ s.mlen ∧ s.mlen ≤ 2 ^ 24 ∧ s.remaining = s.mlen
  /-- A compressed body has its whole length to produce at its setup (R136). -/
  inSetup : s.state = .compressedSetup → s.isUncompressed = false ∧ s.isMetadata = false ∧
    1 ≤ s.mlen ∧ s.mlen ≤ 2 ^ 24 ∧ s.remaining = s.mlen
  /-- In the command loop something is left to produce, the tables are valid, and so are the command registers (10_state.md
  R29; 43_command_loop.md R161). -/
  inLoop : s.state = .commandLoop → s.isUncompressed = false ∧ s.isMetadata = false ∧
    1 ≤ s.remaining ∧ s.remaining ≤ s.mlen ∧ s.mlen ≤ 2 ^ 24 ∧ s.tablesValid = true ∧ s.phaseValid = true

/-- The transitions of the decoder state that are permitted, beside staying and beside any state to Error (10_state.md
R21). -/
def permitted : List (DecState × DecState) :=
  [(.streamHeader, .metaBlockHeader), (.metaBlockHeader, .done), (.metaBlockHeader, .metadata),
   (.metaBlockHeader, .uncompressedBody), (.metaBlockHeader, .compressedSetup), (.metadata, .metaBlockHeader),
   (.metadata, .done), (.uncompressedBody, .metaBlockHeader), (.compressedSetup, .commandLoop),
   (.commandLoop, .metaBlockHeader), (.commandLoop, .done)]

/-- The ten operations (00_scope.md R2). -/
def operations : List Instr :=
  [.streamHeader, .mhdr, .metadata, .uncompressed, .setup, .cmd, .lit, .dist, .copy, .dict]

/-! ### How an instruction ends -/

/-- The answer is the error `k` of an operation that began in `s`: the record in `S.err` with some message, the state Error,
the cursor at `p`, and nothing else of `s` changed (60_exceptions.md R211, R221). -/
def Raises (a : Answer State) (s : State) (k : ErrorKind) (p : Nat) : Prop :=
  ∃ message, a = .next { s with
    err := some { kind := k, code := Config.errorCode k, message := message }, state := .error, bitpos := p }

/-- `n` more bits exist (40_bitreader.md R97). -/
abbrev State.has (s : State) (n : Nat) : Prop := s.bitpos + n ≤ s.inputBits

/-- The value of the next `n` bits (40_bitreader.md R96). -/
abbrev State.peek (s : State) (n : Nat) : Nat := s.inp.field s.bitpos n

/-- The code in force gives `sym` a codeword of `l` bits, and they exist (41_prefix_codes.md R123). -/
def State.spells (s : State) (code : Option PrefixCode) (sym l : Nat) : Prop :=
  s.has l ∧ ∃ T c, code = some T ∧ codeword T sym = some (l, c)

/-- The stream may end at the cursor of a last meta-block: zero padding, and no byte after it where that is refused
(40_bitreader.md R102). -/
abbrev State.endsCleanly (s : State) : Prop :=
  s.isLast = true →
    s.has s.padBits ∧ s.peek s.padBits = 0 ∧ (s.params.trailing = .reject → s.bitpos + s.padBits = s.inputBits)

/-- The state after a meta-block that ends (42_metablock.md R140). -/
def State.closed (s : State) : State :=
  if s.isLast then (s.advance s.padBits).goto .done else s.goto .metaBlockHeader

/-- The state after a part of a command: the end of the meta-block when nothing is left to produce, else the phase `p`
(43_command_loop.md R173, R184). -/
def State.resume (s : State) (p : CmdPhase) : State :=
  if s.remaining = 0 then s.closed else { s with cmdPhase := p }

/-- The part of a command can end there. -/
abbrev State.canResume (s : State) : Prop := s.remaining = 0 → s.endsCleanly

/-- The dictionary can be read: one is available, and a caller's one has the layout's size (44_dictionary_transforms.md R193,
R195, R196). -/
def State.dictReady (s : State) : Prop :=
  s.dictAvailable = true ∧ ∀ d, s.dict = some d → d.wf = true ∧ d.size = Config.dictSize

/-- The ring-buffer sites do not fail, or are not reached (42_metablock.md R158). -/
abbrev State.ringReady (s : State) : Prop :=
  s.pos = 0 → AllocSite.ringBuffer1 ∉ s.params.allocFail ∧ AllocSite.ringBuffer2 ∉ s.params.allocFail

/-- The state after command symbol `sym`, of `l` bits, its insert extra bits and its copy extra bits, in that order
(43_command_loop.md R165 to R167; 30_encoding.md R81 to R83, R91). -/
def State.withCommand (s : State) (sym l : Nat) : State :=
  let icode := insertCodeBase.getD (sym / 64) 0 + sym / 8 % 8
  let ccode := copyCodeBase.getD (sym / 64) 0 + sym % 8
  let p := s.bitpos + l
  let q := p + insertExtra.getD icode 0
  let copyLen := copyBase.getD ccode 0 + s.inp.field q (copyExtra.getD ccode 0)
  { s with
    bitpos := q + copyExtra.getD ccode 0
    insertLen := insertBase.getD icode 0 + s.inp.field p (insertExtra.getD icode 0)
    copyLen := copyLen
    implicitD0 := decide (sym < 128)
    distCtx := if copyLen = 2 then 0 else if copyLen = 3 then 1 else if copyLen = 4 then 2 else 3 }

/-- The state after literal `b`, of `l` bits (43_command_loop.md R172). -/
def State.withLiteral (s : State) (b : Byte) (l : Nat) : State :=
  { s with bitpos := s.bitpos + l, out := s.out.push b, remaining := s.remaining - 1, insertLen := s.insertLen - 1 }

/-- The state after distance code `code` resolves to `d`, with `n` bits taken (43_command_loop.md R175, R178). -/
def State.withDistance (s : State) (code : Nat) (d : Int) (n : Nat) : State :=
  { s with bitpos := s.bitpos + n, dcode := code, distance := d, cmdPhase := .copy }

/-- The distances of the short codes, in order (30_encoding.md R84). -/
def shortDistances (r : DistRing) : List Int :=
  [r.d0, r.d1, r.d2, r.d3, r.d0 - 1, r.d0 + 1, r.d0 - 2, r.d0 + 2,
   r.d0 - 3, r.d0 + 3, r.d1 - 1, r.d1 + 1, r.d1 - 2, r.d1 + 2, r.d1 - 3, r.d1 + 3]

/-- The prefix code that is a single symbol. -/
def singleton (A sym : Nat) : PrefixCode := (List.range A).map fun y => if y = sym then 1 else 0

/-- What the code-length symbols of a complex prefix code have written so far: the lengths, the last non-zero one of a
literal, and the repeat that a code 16 or 17 may continue (41_prefix_codes.md R111). -/
structure Lengths where
  lens   : List Nat
  prev   : Nat
  rep    : Nat
  repLen : Nat
  deriving DecidableEq, Repr

/-- Before the first code-length symbol (41_prefix_codes.md R111, R114). -/
def Lengths.start : Lengths := { lens := [], prev := 8, rep := 0, repLen := 0 }

/-- The number of extra bits of a code-length symbol (30_encoding.md R77). -/
def repeatExtra (sym : Nat) : Nat := if sym = 16 then 2 else if sym = 17 then 3 else 0

/-- After code-length symbol `sym` with extra bits of value `x`: a literal length, or a run of a repeated one
(41_prefix_codes.md R112 to R116). -/
def Lengths.write (k : Lengths) (sym x : Nat) : Lengths :=
  if sym < 16 then
    { k with lens := k.lens ++ [sym], prev := if sym = 0 then k.prev else sym, rep := 0 }
  else
    let new := if sym = 16 then k.prev else 0
    let old := if k.repLen = new then k.rep else 0
    let rep := (if old = 0 then 0 else (old - 2) * 2 ^ repeatExtra sym) + x + 3
    { k with lens := k.lens ++ List.replicate (rep - old) new, rep := rep, repLen := new }

/-- What a list of code-length symbols with their extra bits writes. -/
def Lengths.ofSymbols (items : List (Nat × Nat)) : Lengths := items.foldl (fun k p => k.write p.1 p.2) .start

/-- The share of the code space that code-length-code lengths take, in units of `2 ^ -5` (41_prefix_codes.md R108). -/
def share32 (vs : List Nat) : Nat := (vs.map fun v => if v = 0 then 0 else 32 / 2 ^ v).sum

/-- The tracker of a category with one block type at the start of a meta-block (10_state.md R45). -/
def Tracker.single : Tracker :=
  { nbltypes := 1, btype := 0, blen := 2 ^ 24, prevType := 1, htreeBtype := [], htreeBlen := [] }

end Sys2Proof.Machine
end

