-- ==== Sys2Proof/Certificates/Slice0/Obligations.lean ====
section
/-! DEFINITION. The statements for the provers. Each says which rule of the spec it formalises; OBLIGATIONS.json lists them in
this order. -/

section

open Sys2Proof Sys2Proof.Machine

/-! ### Steps, decoding and encoding -/

/-- A step runs the operation that stands at the machine's place, and each decoder state and phase enables the operation the
spec names; in Done and Error there is none (10_state.md R20, R22; 43_command_loop.md R161, R178). -/
def Obligations.StepRunsTheEnabledOperation : Prop :=
  ∀ s : State,
    (∀ i n, decode s.place s.window = .ok (i, n) → step s = exec i s) ∧
    (s.state = .streamHeader → step s = exec .streamHeader s) ∧
    (s.state = .metaBlockHeader → step s = exec .mhdr s) ∧
    (s.state = .metadata → step s = exec .metadata s) ∧
    (s.state = .uncompressedBody → step s = exec .uncompressed s) ∧
    (s.state = .compressedSetup → step s = exec .setup s) ∧
    (s.state = .commandLoop → s.cmdPhase = .cmdBegin → step s = exec .cmd s) ∧
    (s.state = .commandLoop → s.cmdPhase = .insert → step s = exec .lit s) ∧
    (s.state = .commandLoop → s.cmdPhase = .distance → step s = exec .dist s) ∧
    (s.state = .commandLoop → s.cmdPhase = .copy → s.distance ≤ s.maxDist → step s = exec .copy s) ∧
    (s.state = .commandLoop → s.cmdPhase = .copy → s.maxDist < s.distance → step s = exec .dict s) ∧
    (s.state = .done ∨ s.state = .error → step s = .next s)

/-- Inside an operation, reading an element runs the row that the decoder finds at the cursor; and the meaning of an element's
row is that same effect, delivered in the decoder states and phases whose operations read an element of its place
(00_scope.md R2; 10_state.md R20, R22; 30_encoding.md R94). Elsewhere it is the fault notEnabled, and nothing else: that is
the model's (log entry 11). -/
def Obligations.ElementReadRunsItsRow : Prop :=
  (∀ c s i n, decode c s.window = .ok (i, n) → runElement c s = elem i s) ∧
  (∀ i s, i ∉ operations → exec i s = deliver s (elem i s) ∨ exec i s = .fault .notEnabled) ∧
  (∀ c bits i n, decode c bits = .ok (i, n) → i ∉ operations → ∀ s : State,
    (c.readIn s.state s.cmdPhase = true → exec i s = deliver s (elem i s)) ∧
    (c.readIn s.state s.cmdPhase = false → exec i s = .fault .notEnabled))

/-- Words written out from the spec's encodings decode to the instructions they stand for (30_encoding.md R73, R75, R76;
95_test_vectors.md V2, V5, V6, V7; 41_prefix_codes.md R123). A sanity statement. -/
def Obligations.WrittenWordsDecode : Prop :=
  decode (.field .wbits) [true, true, false, true] = .ok (.wbits22, 4) ∧
  decode (.field .wbits) [true, false, false, false, false, true, false] = .ok (.wbits10, 7) ∧
  decode (.field .varlen) [true, false, true, false, true, true] = .ok (.varlenN2 3, 6) ∧
  decode (.field .clcl) [true, true, true, false] = .ok (.clcl1, 4) ∧
  decode (.field .mlen) [false, true, false, false] = .ok (.mlenNibble 2, 4) ∧
  decode (.symbol .codeLength [1, 2, 2]) [true, true] = .ok (.clsym2, 2) ∧
  decode (.symbol .literal (List.replicate 65 0 ++ [1, 1])) [true] = .ok (.litB 0x42, 1) ∧
  decode (.operation .commandLoop .copy true) [] = .ok (.dict, 0)

/-- Decoding the encoding of an instruction gives it back, with every operand, whatever bits follow: at every place of the
grammar, for every prefix code that is valid. And every well-formed instruction has an encoding at some place
(30_encoding.md R70 to R94; 41_prefix_codes.md R120, R123). -/
def Obligations.EncodeThenDecode : Prop :=
  (∀ c i w rest, (∀ a T, c = .symbol a T → validCode T.length T = true) →
    encode c i = some w → decode c (w ++ rest) = .ok (i, w.length)) ∧
  (∀ i, i.wellFormed = true → ∃ c w, encode c i = some w)

/-- What the decoder reads is what the encoder writes: the bits taken are exactly the instruction's encoding, at every place
and for every prefix code (30_encoding.md R70 to R94). So no two instructions share an encoding at one place. -/
def Obligations.DecodeThenEncode : Prop :=
  ∀ c bits i n, decode c bits = .ok (i, n) → n ≤ bits.length ∧ encode c i = some (bits.take n)

/-- Every instruction the decoder gives, at a place that can occur, is well formed: its operands lie in their row's range
(30_encoding.md R94). -/
def Obligations.DecodedInstructionsAreWellFormed : Prop :=
  ∀ c bits i n, c.proper = true → decode c bits = .ok (i, n) → i.wellFormed = true

/-- In a valid prefix code every bit pattern decodes to some used symbol, in at most 15 bits (30_encoding.md R93;
41_prefix_codes.md R117, R118, R123, R126). -/
def Obligations.ValidCodesDecodeEveryPattern : Prop :=
  ∀ A T bits, validCode A T = true → 15 ≤ bits.length →
    ∃ sym l, decodeSymbol T bits = .ok (sym, l) ∧ l ≤ 15 ∧ sym < A ∧ T.getD sym 0 ≠ 0

/-! ### The call, the invariant, the end of a run -/

/-- Every call starts in the reset state, whatever its input. Before any bit is read, a caller's dictionary of the wrong size
is an error, and a zero-byte input ends the decode at once where that is allowed (10_state.md R44;
70_reset_and_hazards.md R230 to R232; 44_dictionary_transforms.md R196). The order of the last two is the model's (log
entry 7). -/
def Obligations.ACallStartsInTheResetState : Prop :=
  (∀ ps dict input, let s := State.start ps dict input
    s.state = .streamHeader ∧ s.bitpos = 0 ∧ s.err = none ∧ s.out = [] ∧
    s.distRing = { d0 := 4, d1 := 11, d2 := 15, d3 := 16 } ∧ s.inp.bytes = input ∧ s.params = ps) ∧
  (∀ s d, s.state = .streamHeader → s.dict = some d → d.size ≠ Config.dictSize →
    Raises (exec .streamHeader s) s .formatDictionary s.bitpos) ∧
  (∀ s : State, s.state = .streamHeader → (∀ d, s.dict = some d → d.size = Config.dictSize) → s.inp.size = 0 →
    s.params.emptyInputOk = true → exec .streamHeader s = .next { s with state := .done })

/-- The invariant holds at reset and at the start of every call. -/
def Obligations.InvariantHoldsAtTheStart : Prop :=
  Sound State.reset ∧ ∀ ps dict input, Sound (State.start ps dict input)

/-- Every step keeps the invariant: the cursor stays in the input, the ring entries stay positive, the output keeps its
canonical form, there is an error record exactly in state Error, and in the command loop every table is a valid prefix
code or a map into the trees (10_state.md R25 to R35; 41_prefix_codes.md R118; 42_metablock.md R151, R152). -/
def Obligations.StepKeepsTheInvariant : Prop :=
  ∀ s s', Sound s → step s = .next s' → Sound s'

/-- From a state that meets the invariant no step faults: no unset table entry is read, every symbol has a codeword, and no
address outside a space is reached. The one refusal is the large-window stream, and only where LARGE_WINDOW is true
(60_exceptions.md R210; 20_memory.md R57, R59; 42_metablock.md R131). -/
def Obligations.SoundStatesNeverFault : Prop :=
  ∀ s, Sound s →
    (∃ s', step s = .next s') ∨ (step s = .refused .largeWindow ∧ s.params.largeWindow = true)

/-- Every decode of a finite input ends, in Done or in Error (70_reset_and_hazards.md R234; 43_command_loop.md R189;
40_bitreader.md R103). -/
def Obligations.EveryDecodeEnds : Prop :=
  ∀ s, Sound s → s.params.largeWindow = false → ∃ k t, Sys2Proof.core.run k s = .next t ∧ t.ended = true

/-- Bytes that no read needs do not matter: a step that completes on an input does the same on any longer input, where
trailing bytes are ignored (40_bitreader.md R97, R101, R102; 70_reset_and_hazards.md R233). The zero-byte input that may
end at once is apart (R232). -/
def Obligations.BytesNotReadDoNotMatter : Prop :=
  ∀ (s t : State) (more : List Byte), Sound s → s.params.trailing = .ignore →
    ¬(s.inp.size = 0 ∧ s.params.emptyInputOk = true) → step s = .next t → t.state ≠ .error →
    step { s with inp := Memory.ofBytes (s.inp.bytes ++ more) } =
      .next { t with inp := Memory.ofBytes (s.inp.bytes ++ more) }

/-! ### Rules of the whole machine -/

/-- The decoder state changes only by the permitted transitions (10_state.md R21), but for the zero-byte input that may end at
once (70_reset_and_hazards.md R232), which R21 does not list (log entry 7). -/
def Obligations.OnlyPermittedTransitions : Prop :=
  ∀ s t, Sound s → step s = .next t →
    t.state = s.state ∨ t.state = .error ∨ (s.state, t.state) ∈ permitted ∨
    (s.state = .streamHeader ∧ t.state = .done ∧ s.inp.size = 0 ∧ s.params.emptyInputOk = true)

/-- Nothing writes the input, the dictionary or the parameters, and the cursor never rewinds (20_memory.md R53;
10_state.md R24, R25, R40). -/
def Obligations.InputIsNeverWrittenNorRewound : Prop :=
  ∀ i s t, exec i s = .next t →
    t.inp = s.inp ∧ t.dict = s.dict ∧ t.params = s.params ∧ s.bitpos ≤ t.bitpos ∧
    (s.bitpos ≤ s.inputBits → t.bitpos ≤ t.inputBits)

/-- The output changes only by appending: every byte that stood in it reads as before, and only a literal, a copy, a dictionary
word or an uncompressed body appends (10_state.md R36; 20_memory.md R54, R56). -/
def Obligations.OutputOnlyGrowsAtItsEnd : Prop :=
  ∀ i s t, exec i s = .next t →
    (∃ bs, t.out = (s.appendAll bs).out) ∧
    (∀ a, a < s.pos → t.out.read a = s.out.read a) ∧
    ((∀ b, i ≠ .litB b) → i ≠ .lit → i ≠ .copy → i ≠ .dict → i ≠ .uncompressed → t.out = s.out)

/-- Only a backward copy writes the distance ring, and it pushes its distance unless the distance code is 0 (10_state.md R35;
43_command_loop.md R179). -/
def Obligations.OnlyCopyWritesTheDistanceRing : Prop :=
  ∀ i s t, exec i s = .next t →
    (i ≠ .copy → t.distRing = s.distRing) ∧
    (i = .copy → t.state ≠ .error →
      t.distRing = if s.dcode = 0 then s.distRing
        else { d0 := s.distance.toNat, d1 := s.distRing.d0, d2 := s.distRing.d1, d3 := s.distRing.d2 })

/-- Which instructions write which register: every other instruction leaves it as it was (10_state.md R20 to R23, R26 to R34,
R38, R39). The input, the dictionary, the parameters and the cursor are in InputIsNeverWrittenNorRewound, the output in
OutputOnlyGrowsAtItsEnd, the distance ring in OnlyCopyWritesTheDistanceRing. -/
def Obligations.RegistersAreWrittenOnlyByTheirOwn : Prop :=
  ∀ i s t, exec i s = .next t →
    (i ≠ .streamHeader → (∀ b w x, i.row ≠ .field .wbits b w x) → t.wbits = s.wbits) ∧
    (i ≠ .mhdr → (∀ b w x, i.row ≠ .field .mhdr b w x) →
      t.isLast = s.isLast ∧ t.isLastEmpty = s.isLastEmpty) ∧
    (i ≠ .mhdr → (∀ b w x, i.row ≠ .field .mnibbles b w x) → t.isMetadata = s.isMetadata) ∧
    (i ≠ .mhdr → (∀ b w x, i.row ≠ .field .isUncompressed b w x) → t.isUncompressed = s.isUncompressed) ∧
    (i ≠ .mhdr → (∀ b w x, i.row ≠ .field .mlen b w x) → t.mlen = s.mlen) ∧
    (i ∉ [.mhdr, .isuncompressed0, .isuncompressed1, .uncompressed, .lit, .copy, .dict] → (∀ b, i ≠ .litB b) →
      t.remaining = s.remaining) ∧
    (i ≠ .setup → (∀ b w x, i.row ≠ .field .npostfix b w x) → t.npostfix = s.npostfix) ∧
    (i ≠ .setup → (∀ b w x, i.row ≠ .field .ndirect b w x) → t.ndirect = s.ndirect) ∧
    (i ≠ .setup → (∀ b w x, i.row ≠ .field .cmode b w x) → t.cmode = s.cmode) ∧
    (i ≠ .setup →
      t.ntreesL = s.ntreesL ∧ t.cmapL = s.cmapL ∧ t.ntreesD = s.ntreesD ∧ t.cmapD = s.cmapD ∧
      t.htreeL = s.htreeL ∧ t.htreeI = s.htreeI ∧ t.htreeD = s.htreeD) ∧
    (i ∉ [.setup, .cmd, .lit, .dist] → (∀ c, i ∉ [.btype0 c, .btype1 c] ++ blockCountRows c) →
      (∀ c u, i ≠ .btypeT c u) → t.trackerL = s.trackerL ∧ t.trackerI = s.trackerI ∧ t.trackerD = s.trackerD) ∧
    (i ∈ [.cmd] → t.trackerL = s.trackerL ∧ t.trackerD = s.trackerD) ∧
    (i ∈ [.lit] → t.trackerI = s.trackerI ∧ t.trackerD = s.trackerD) ∧
    (i ∈ [.dist] → t.trackerL = s.trackerL ∧ t.trackerI = s.trackerI) ∧
    (i ≠ .cmd → i ≠ .lit → (∀ b, i ≠ .litB b) → (∀ f sym, f ∈ commandRows → i ≠ f sym) → i ∉ insertLengthRows →
      t.insertLen = s.insertLen) ∧
    (i ≠ .cmd → (∀ f sym, f ∈ commandRows → i ≠ f sym) → i ∉ copyLengthRows →
      t.copyLen = s.copyLen ∧ t.distCtx = s.distCtx) ∧
    (i ≠ .cmd → (∀ f sym, f ∈ commandRows → i ≠ f sym) → t.implicitD0 = s.implicitD0) ∧
    (i ≠ .dist → i ∉ shortDistanceRows → (∀ k, i ≠ .distDirect k ∧ i ≠ .distLong k) →
      t.dcode = s.dcode ∧ t.distance = s.distance) ∧
    (i ∉ [.setup, .cmd, .lit, .dist, .copy, .dict] → (∀ b, i ≠ .litB b) → (∀ f sym, f ∈ commandRows → i ≠ f sym) →
      i ∉ shortDistanceRows → (∀ k, i ≠ .distDirect k ∧ i ≠ .distLong k) → t.cmdPhase = s.cmdPhase) ∧
    (t.state ≠ .error →
      i ∉ [.streamHeader, .mhdr, .metadata, .uncompressed, .setup, .cmd, .lit, .copy, .dict] →
      (∀ b w x, i.row ≠ .field .wbits b w x) →
      i ∉ [.mhdrLast1Empty1, .mnibbles3, .isuncompressed0, .isuncompressed1] → (∀ b, i ≠ .litB b) →
      (∀ f sym, f ∈ commandRows → i ≠ f sym) → t.state = s.state) ∧
    (t.state ≠ .error → t.err = s.err)

/-- State Error is final, and so is Done: no operation is enabled, no instruction runs, and nothing changes; the result is the
error record, or the whole output (10_state.md R20; 42_metablock.md R160; 60_exceptions.md R213; 70_reset_and_hazards.md
R233). That a step answers the same state is the model's form of it (log entry 8), and that a meaning run there is the fault
notEnabled is the model's guard (log entry 11). -/
def Obligations.ErrorAndDoneAreFinal : Prop :=
  ∀ s : State, s.state = .error ∨ s.state = .done →
    s.fetch = .error .noOperation ∧ step s = .next s ∧ (∀ i, exec i s = .fault .notEnabled) ∧ s.ended = true ∧
    (s.state = .error → s.result = s.err.map .error) ∧ (s.state = .done → s.result = some (.ok s.out.bytes))

/-- Raising an error: the record with its kind and code, and the state Error. Of everything else only the cursor differs from
the state in which the operation began (60_exceptions.md R211, R221; that the cursor stays where the check stood is the
model's, log entry 4). -/
def Obligations.RaisingSavesTheRecordAlone : Prop :=
  ∀ i s t, exec i s = .next t → t.state = .error →
    ∃ k message, t = { s with
      err := some { kind := k, code := Config.errorCode k, message := message }, state := .error, bitpos := t.bitpos }

/-! ### The bit reader and the memory spaces -/

/-- `readBits`: the first bit read is bit 0 of the value, the cursor moves past the field, and a field that does not fit in the
input is an error before anything changes; a stream bit is a bit of its byte, the least significant first
(40_bitreader.md R96, R97; 20_memory.md R52). -/
def Obligations.ReadBitsTakesTheLowBitFirst : Prop :=
  ∀ (n : Nat) (s : State),
    (s.bitpos + n ≤ 8 * s.inp.size → ∃ v, readBits n s = .ok (v, { s with bitpos := s.bitpos + n }) ∧ v < 2 ^ n ∧
      (∀ j, j < n → v.testBit j = s.inp.bit (s.bitpos + j))) ∧
    (8 * s.inp.size < s.bitpos + n →
      readBits n s = .error (.raise .invalidArguments "read past end of input" s.bitpos)) ∧
    (∀ k b, s.inp.read (k / 8) = some b → s.inp.bit k = b.getLsbD (k % 8))

/-- `alignToByte` moves to the next byte boundary over zero bits, and raises its kind on any other; `finalPadding` adds the check
for bytes that follow (40_bitreader.md R98, R102). -/
def Obligations.AlignmentChecksThePadding : Prop :=
  ∀ (k : PadKind) (s : State), s.bitpos ≤ s.inputBits →
    let a := 8 * ((s.bitpos + 7) / 8)
    let v := s.inp.field s.bitpos (a - s.bitpos)
    (v = 0 → alignToByte k s = .ok { s with bitpos := a }) ∧
    (v ≠ 0 → ∃ m, alignToByte k s = .error (.raise (PadKind.error k) m a)) ∧
    (v = 0 → s.params.trailing = .ignore ∨ a = s.inputBits → finalPadding s = .ok { s with bitpos := a }) ∧
    (v = 0 → s.params.trailing = .reject → a < s.inputBits →
      ∃ m, finalPadding s = .error (.raise .invalidArguments m a)) ∧
    (v ≠ 0 → ∃ m, finalPadding s = .error (.raise .formatPadding2 m a))

/-- `readBytes(m)` at a byte boundary appends the next `m` input bytes, which is what `m` reads of 8 bits append
(40_bitreader.md R99, which marks the equality as its inference from R96 and 20_memory.md R56). -/
def Obligations.ReadBytesEqualsEightBitReads : Prop :=
  ∀ (m : Nat) (s : State), s.inp.wf = true → s.bitpos % 8 = 0 →
    (s.bitpos / 8 + m ≤ s.inp.size →
      readBytes m s = .ok { s with
        out := (s.appendAll ((s.inp.bytes.drop (s.bitpos / 8)).take m)).out, bitpos := s.bitpos + 8 * m } ∧
      readBytes m s = iterate m (fun t => do
        let (v, u) ← readBits 8 t
        return u.append (BitVec.ofNat 8 v)) s) ∧
    (s.inp.size < s.bitpos / 8 + m →
      readBytes m s = .error (.raise .invalidArguments "read past end of input" s.bitpos))

/-- The ring buffer holds the last WINDOW_SIZE bytes of the output, each at its address modulo WINDOW_SIZE, and a backward read
within the bound is a read of the output and of the ring (20_memory.md R55, and R57, which is marked as an inference from
R55 and R178; 70_reset_and_hazards.md R236). -/
def Obligations.RingBufferHoldsTheLastBytes : Prop :=
  ∀ s : State,
    (∀ a, a < s.pos → s.pos - s.windowSize ≤ a → s.ringByte (a % s.windowSize) = s.out.read a) ∧
    (∀ d, 1 ≤ d → d ≤ min s.pos s.maxBackward →
      s.outRead d = s.out.read (s.pos - d) ∧ s.outRead d = s.ringByte ((s.pos - d) % s.windowSize))

/-! ### The rows of the headers -/

/-- The rows of the window-size field: each sets WBITS and starts the first meta-block. The large-window marker is an error,
or refused where LARGE_WINDOW is true (42_metablock.md R128 to R131; 30_encoding.md R73). -/
def Obligations.WindowSizeRowsSetTheWindow : Prop :=
  (∀ i n w, (i, n, w) ∈ [(Instr.wbits16, 1, 16), (.wbits18, 4, 18), (.wbits19, 4, 19), (.wbits20, 4, 20), (.wbits21, 4, 21),
      (.wbits22, 4, 22), (.wbits23, 4, 23), (.wbits24, 4, 24), (.wbits17, 7, 17), (.wbits10, 7, 10), (.wbits11, 7, 11),
      (.wbits12, 7, 12), (.wbits13, 7, 13), (.wbits14, 7, 14), (.wbits15, 7, 15)] →
    ∀ s : State, s.state = .streamHeader → s.has n →
      exec i s = .next { s with bitpos := s.bitpos + n, wbits := w, state := .metaBlockHeader }) ∧
  (∀ s : State, s.state = .streamHeader → s.has 7 →
    (s.params.largeWindow = false → Raises (exec .wbitsLarge s) s .formatWindowBits (s.bitpos + 7)) ∧
    (s.params.largeWindow = true → exec .wbitsLarge s = .refused .largeWindow))

/-- The rows of ISLAST, ISLASTEMPTY and MNIBBLES (42_metablock.md R132, R133). -/
def Obligations.MetaBlockHeaderRowsSetTheFlags : Prop :=
  ∀ s : State, s.state = .metaBlockHeader →
    (s.has 1 → exec .mhdrLast0 s = .next { s with bitpos := s.bitpos + 1, isLast := false }) ∧
    (s.has 2 → exec .mhdrLast1Empty0 s =
      .next { s with bitpos := s.bitpos + 2, isLast := true, isLastEmpty := false }) ∧
    (s.has 2 → let t := { s with bitpos := s.bitpos + 2, isLast := true, isLastEmpty := true }
      t.endsCleanly → exec .mhdrLast1Empty1 s = .next { t with bitpos := t.bitpos + t.padBits, state := .done }) ∧
    (s.has 2 → ∀ i n, (i, n) ∈ [(Instr.mnibbles0, 4), (.mnibbles1, 5), (.mnibbles2, 6)] →
      exec i s = .next { s with
        bitpos := s.bitpos + 2, isMetadata := false, work := { s.work with nibbles := n, acc := 0, index := 0 } }) ∧
    (s.has 2 → exec .mnibbles3 s = .next { s with bitpos := s.bitpos + 2, isMetadata := true, state := .metadata })

/-- The rows of an MLEN nibble and of ISUNCOMPRESSED: the last nibble sets MLEN, a zero last nibble of more than four is an
error, and ISUNCOMPRESSED sets the bytes to produce and the next state (42_metablock.md R134 to R136, R158). -/
def Obligations.LengthRowsSetMlenAndTheBody : Prop :=
  ∀ s : State, s.state = .metaBlockHeader →
    (∀ x, s.has 4 →
      let v := s.work.acc ||| (x * 2 ^ (4 * s.work.index))
      let final := s.work.index + 1 = s.work.nibbles
      (¬(final ∧ 4 < s.work.nibbles ∧ x = 0) → exec (.mlenNibble x) s = .next { s with
        bitpos := s.bitpos + 4, mlen := if final then v + 1 else s.mlen,
        work := { s.work with acc := v, index := s.work.index + 1 } }) ∧
      (final ∧ 4 < s.work.nibbles ∧ x = 0 →
        Raises (exec (.mlenNibble x) s) s .formatExuberantNibble (s.bitpos + 4))) ∧
    (∀ i b, (i, b) ∈ [(Instr.isuncompressed0, false), (.isuncompressed1, true)] → s.has 1 → s.ringReady →
      exec i s = .next { s with
        bitpos := s.bitpos + 1, isUncompressed := b, remaining := s.mlen,
        state := if b then .uncompressedBody else .compressedSetup })

/-- The rows of a metadata header and of padding (42_metablock.md R137, R138; 40_bitreader.md R98). -/
def Obligations.MetadataAndPaddingRows : Prop :=
  (∀ s : State, s.state = .metadata →
    (s.has 1 → exec .metadataReserved0 s = .next { s with bitpos := s.bitpos + 1 } ∧
      Raises (exec .metadataReserved1 s) s .formatReserved (s.bitpos + 1)) ∧
    (s.has 2 → ∀ i k, (i, k) ∈ [(Instr.mskipbytes0, 0), (.mskipbytes1, 1), (.mskipbytes2, 2), (.mskipbytes3, 3)] →
      exec i s = .next { s with
        bitpos := s.bitpos + 2, work := { s.work with skb := k, acc := 0, index := 0 } }) ∧
    (∀ b, s.has 8 →
      let final := s.work.index + 1 = s.work.skb ∧ 1 < s.work.skb ∧ b = 0
      (¬final → exec (.mskiplenByte b) s = .next { s with
        bitpos := s.bitpos + 8,
        work := { s.work with
          acc := s.work.acc ||| (b * 2 ^ (8 * s.work.index)), index := s.work.index + 1 } }) ∧
      (final → Raises (exec (.mskiplenByte b) s) s .formatExuberantMetaNibble (s.bitpos + 8)))) ∧
  (∀ (s : State) k n, s.has n →
    (k = .interior → s.state = .metadata ∨ s.state = .uncompressedBody) →
    (k = .final → s.state = .metaBlockHeader ∨ s.state = .metadata ∨ s.state = .commandLoop) →
    exec (.pad k n 0) s = .next { s with bitpos := s.bitpos + n } ∧
    (∀ v, v ≠ 0 → Raises (exec (.pad k n v) s) s
      (if k = .interior then .formatPadding1 else .formatPadding2) (s.bitpos + n)))

/-! ### The rows of the compressed setup -/

/-- The rows of the variable-length count, the distance parameters, the context modes and the context-map header
(30_encoding.md R75, R86; 42_metablock.md R145, R146, R148, R152). -/
def Obligations.SetupFieldRowsSetTheirFields : Prop :=
  ∀ s : State, s.state = .compressedSetup →
    let counts := fun n v =>
      (.next { s with bitpos := s.bitpos + n, work := { s.work with count := v } } : Answer State)
    (s.has 1 → exec .varlen0 s = counts 1 0) ∧
    (s.has 4 → exec .varlen1 s = counts 4 1) ∧
    (s.has 5 → ∀ x, exec (.varlenN1 x) s = counts 5 (2 + x)) ∧
    (s.has 6 → ∀ x, exec (.varlenN2 x) s = counts 6 (4 + x)) ∧
    (s.has 7 → ∀ x, exec (.varlenN3 x) s = counts 7 (8 + x)) ∧
    (s.has 8 → ∀ x, exec (.varlenN4 x) s = counts 8 (16 + x)) ∧
    (s.has 9 → ∀ x, exec (.varlenN5 x) s = counts 9 (32 + x)) ∧
    (s.has 10 → ∀ x, exec (.varlenN6 x) s = counts 10 (64 + x)) ∧
    (s.has 11 → ∀ x, exec (.varlenN7 x) s = counts 11 (128 + x)) ∧
    (s.has 2 → ∀ i k, (i, k) ∈ [(Instr.npostfix0, 0), (.npostfix1, 1), (.npostfix2, 2), (.npostfix3, 3)] →
      exec i s = .next { s with bitpos := s.bitpos + 2, npostfix := k }) ∧
    (s.has 4 → ∀ x, exec (.ndirect x) s = .next { s with bitpos := s.bitpos + 4, ndirect := x * 2 ^ s.npostfix }) ∧
    (s.has 2 → ∀ i m, (i, m) ∈ [(Instr.cmodeLsb6, CtxMode.lsb6), (.cmodeMsb6, .msb6), (.cmodeUtf8, .utf8),
        (.cmodeSigned, .signed)] →
      exec i s = .next { s with bitpos := s.bitpos + 2, cmode := s.cmode ++ [m] }) ∧
    (s.has 1 → exec .cmapRlemax0 s = .next { s with bitpos := s.bitpos + 1, work := { s.work with rlemax := 0 } }) ∧
    (s.has 5 → ∀ x, exec (.cmapRlemax x) s =
      .next { s with bitpos := s.bitpos + 5, work := { s.work with rlemax := x + 1 } }) ∧
    (s.has 1 → exec .cmapImtf0 s = .next { s with bitpos := s.bitpos + 1 }) ∧
    (s.has 1 → exec .cmapImtf1 s = .next { s with
      bitpos := s.bitpos + 1, work := { s.work with map := moveToFront (List.range 256) s.work.map } })

/-- The rows of HSKIP, of the tree-select bit and of the code-length-code lengths (41_prefix_codes.md R104, R107, R108;
30_encoding.md R76, R78). -/
def Obligations.PrefixCodeHeaderRows : Prop :=
  ∀ s : State, s.state = .compressedSetup →
    (s.has 2 → exec .hskip1 s =
      .next { s with bitpos := s.bitpos + 2, work := { s.work with hskip := 1, syms := [] } }) ∧
    (s.has 2 → ∀ i h, (i, h) ∈ [(Instr.hskip0, 0), (.hskip2, 2), (.hskip3, 3)] → exec i s = .next { s with
      bitpos := s.bitpos + 2,
      work := { s.work with hskip := h, index := h, cl := List.replicate 18 0, num := 0, space := 32 } }) ∧
    (s.has 1 → s.work.syms.length = 4 → s.work.syms.Nodup → (∀ y, y ∈ s.work.syms → y < s.work.alphabet) →
      ∀ i ls, (i, ls) ∈ [(Instr.treeselect0, [2, 2, 2, 2]), (.treeselect1, [1, 2, 3, 3])] →
        ∃ T, exec i s = .next { s with bitpos := s.bitpos + 1, work := { s.work with lens := T } } ∧
          T.length = s.work.alphabet ∧
          ∀ y, y < s.work.alphabet → T[y]? = some (((s.work.syms.zip ls).lookup y).getD 0)) ∧
    (∀ i n v sym, (i, n, v) ∈ [(Instr.clcl0, 2, 0), (.clcl3, 2, 3), (.clcl4, 2, 4), (.clcl2, 3, 2), (.clcl1, 4, 1),
        (.clcl5, 4, 5)] →
      s.has n → [1, 2, 3, 4, 0, 5, 17, 6, 16, 7, 8, 9, 10, 11, 12, 13, 14, 15][s.work.index]? = some sym →
      exec i s = .next { s with
        bitpos := s.bitpos + n
        work := { s.work with
          cl := s.work.cl.set sym v, index := s.work.index + 1,
          num := if v = 0 then s.work.num else s.work.num + 1,
          space := if v = 0 then s.work.space else s.work.space - ((32 / 2 ^ v : Nat) : Int) } })

/-- The rows of NSYM: the symbols are read in order, each checked against the alphabet as it is read, and then for duplicates;
one, two or three symbols fix the code lengths (41_prefix_codes.md R105 to R107). That the one symbol of a degenerate code
is given length 1 is the model's form (log entry 6). -/
def Obligations.SimpleCodeRowsReadTheirSymbols : Prop :=
  ∀ i n, (i, n) ∈ [(Instr.nsym1, 1), (.nsym2, 2), (.nsym3, 3), (.nsym4, 4)] → ∀ s : State, s.state = .compressedSetup →
    let A := s.work.alphabet
    let W := bitlength (A - 1)
    let v := fun j => s.inp.field (s.bitpos + 2 + W * j) W
    let vs := (List.range n).map v
    s.has (2 + W * n) →
    ((∀ j, j < n → v j < A) → vs.Nodup →
      ∃ T, exec i s = .next { s with
          bitpos := s.bitpos + (2 + W * n), work := { s.work with syms := vs, lens := T } } ∧
        (n = 4 → T = s.work.lens) ∧
        (n < 4 → T.length = A ∧ ∀ y, y < A →
          T[y]? = some (((vs.zip ([[1], [1, 1], [1, 2, 2]].getD (n - 1) [])).lookup y).getD 0))) ∧
    ((∀ j, j < n → v j < A) → ¬vs.Nodup →
      Raises (exec i s) s .formatSimpleHuffmanSame (s.bitpos + (2 + W * n))) ∧
    (∀ j, j < n → A ≤ v j → (∀ k, k < j → v k < A) →
      Raises (exec i s) s .formatSimpleHuffmanAlphabet (s.bitpos + (2 + W * (j + 1))))

/-- A literal code length: it is written, it resets the repeat, and a non-zero one becomes the previous length and takes its
share of the space (41_prefix_codes.md R112; 30_encoding.md R77). -/
def Obligations.CodeLengthSymbolRows : Prop :=
  ∀ c i, c < 16 → codeLengthRows[c]? = some i → ∀ (s : State) (l : Nat), s.state = .compressedSetup →
    s.spells (some s.work.cl) c l →
    exec i s = .next { s with
      bitpos := s.bitpos + l
      work := { s.work with
        rep := 0, lens := s.work.lens.set s.work.symbol c, symbol := s.work.symbol + 1,
        prevLen := if c = 0 then s.work.prevLen else c,
        space := if c = 0 then s.work.space else s.work.space - ((2 ^ (15 - c) : Nat) : Int) } }

/-- The repeat codes 16 and 17: the accumulation, the fill, and the error past the alphabet (41_prefix_codes.md R113 to
R116). -/
def Obligations.RepeatRowsFillTheLengths : Prop :=
  ∀ (s : State) (l : Nat), s.state = .compressedSetup →
    ∀ i sym eb newLen, (i, sym, eb, newLen) ∈ [(Instr.clsym16, 16, 2, s.work.prevLen), (.clsym17, 17, 3, 0)] →
    s.spells (some s.work.cl) sym l → s.has (l + eb) →
    let old := if s.work.repLen = newLen then s.work.rep else 0
    let rep := (if old = 0 then 0 else (old - 2) * 2 ^ eb) + s.inp.field (s.bitpos + l) eb + 3
    let delta := rep - old
    (s.work.symbol + delta ≤ s.work.alphabet →
      ∃ T, exec i s = .next { s with
          bitpos := s.bitpos + (l + eb)
          work := { s.work with
            rep := rep, repLen := newLen, lens := T, symbol := s.work.symbol + delta,
            space := if newLen = 0 then s.work.space
              else s.work.space - ((delta * 2 ^ (15 - newLen) : Nat) : Int) } } ∧
        T.length = s.work.lens.length ∧
        ∀ y, y < T.length → T[y]? =
          if s.work.symbol ≤ y ∧ y < s.work.symbol + delta then some newLen else s.work.lens[y]?) ∧
    (s.work.alphabet < s.work.symbol + delta →
      Raises (exec i s) s .formatHuffmanSpace (s.bitpos + (l + eb)))

/-- The rows of block types and block counts (43_command_loop.md R162; 30_encoding.md R79, R80; 42_metablock.md R144). The
ranges of the block-count codes follow one another from 1 on, with the extra bits of R80. -/
def Obligations.BlockTypeAndCountRows : Prop :=
  (∀ (s : State) (c : Category) (l : Nat),
    let k := s.tracker c
    (s.state = .commandLoop → ∀ i t, (i, t) ∈ [(Instr.btype0 c, 0), (.btype1 c, 1)] ∨ (2 ≤ t ∧ i = .btypeT c t) →
      s.spells (some k.htreeBtype) t l →
      exec i s = .next ((s.advance l).setTracker c { k with
        prevType := k.btype
        btype := if t = 0 then k.prevType else if t = 1 then (k.btype + 1) % k.nbltypes else t - 2 })) ∧
    (s.state = .compressedSetup ∨ s.state = .commandLoop → ∀ i j, (blockCountRows c)[j]? = some i →
      s.spells (some k.htreeBlen) j l → s.has (l + blockCountExtra.getD j 0) →
      exec i s = .next ((s.advance (l + blockCountExtra.getD j 0)).setTracker c { k with
        blen := blockCountBase.getD j 0 + s.inp.field (s.bitpos + l) (blockCountExtra.getD j 0) }))) ∧
  blockCountExtra = List.replicate 4 2 ++ List.replicate 4 3 ++ List.replicate 4 4 ++ List.replicate 4 5 ++
    [6, 6, 7, 8, 9, 10, 11, 12, 13, 24] ∧
  blockCountBase.length = 26 ∧ blockCountBase[0]? = some 1 ∧
  (∀ k, k < 25 → blockCountBase.getD (k + 1) 0 = blockCountBase.getD k 0 + 2 ^ blockCountExtra.getD k 0)

/-- The rows of context-map symbols: a zero, a run of zeros with its error past the map, a value (42_metablock.md R149,
R150; 30_encoding.md R92). -/
def Obligations.ContextMapSymbolRows : Prop :=
  ∀ (s : State) (l : Nat), s.state = .compressedSetup →
    (s.spells (some s.work.lens) 0 l →
      exec .cmapsym0 s = .next { s with bitpos := s.bitpos + l, work := { s.work with map := s.work.map ++ [0] } }) ∧
    (∀ v, s.spells (some s.work.lens) v l → s.has (l + v) →
      let run := 2 ^ v + s.inp.field (s.bitpos + l) v
      (s.work.map.length + run ≤ s.work.mapSize → exec (.cmapsymRun v) s = .next { s with
        bitpos := s.bitpos + (l + v), work := { s.work with map := s.work.map ++ List.replicate run 0 } }) ∧
      (s.work.mapSize < s.work.map.length + run →
        Raises (exec (.cmapsymRun v) s) s .formatContextMapRepeat (s.bitpos + (l + v)))) ∧
    (∀ v, s.spells (some s.work.lens) v l →
      exec (.cmapsymValue v) s = .next { s with
        bitpos := s.bitpos + l, work := { s.work with map := s.work.map ++ [v - s.work.rlemax] } })

/-! ### The rows of the command loop -/

/-- A literal row appends its byte, counts it off, and ends the insert phase, or the meta-block, with the last one
(43_command_loop.md R172, R173). -/
def Obligations.LiteralRowAppendsItsByte : Prop :=
  ∀ (s : State) (b : Byte) (l : Nat), s.state = .commandLoop → s.cmdPhase = .insert → s.spells s.literalCode b.toNat l →
    let t := s.withLiteral b l
    (t.insertLen ≠ 0 → exec (.litB b) s = .next t) ∧
    (t.insertLen = 0 → t.canResume → exec (.litB b) s = .next (t.resume .distance))

/-- A command row: its lengths with their extra bits, the overrun check, the next phase (43_command_loop.md R165 to R170;
30_encoding.md R81, R91). -/
def Obligations.CommandRowsSetTheLengths : Prop :=
  ∀ (s : State) (f : Nat → Instr) (sym l : Nat), s.state = .commandLoop → s.cmdPhase = .cmdBegin →
    commandRows[sym / 64]? = some f → s.spells s.commandCode sym l →
    let t := s.withCommand sym l
    t.bitpos ≤ s.inputBits →
    (t.insertLen ≠ 0 → t.insertLen ≤ s.remaining → exec (f sym) s = .next { t with cmdPhase := .insert }) ∧
    (t.insertLen = 0 → t.canResume → exec (f sym) s = .next (t.resume .distance)) ∧
    (s.remaining < t.insertLen → Raises (exec (f sym) s) s .formatBlockLength1 t.bitpos)

/-- The rows of insert and copy length codes: the base and the extra bits (30_encoding.md R82, R83, R91).
The ranges of the codes follow one another, from 0 on for an insert and from 2 on for a copy, with the extra bits of R82 and
R83. -/
def Obligations.LengthCodeRows : Prop :=
  (∀ (s : State) (k : Nat) (i : Instr), s.state = .commandLoop → s.cmdPhase = .cmdBegin →
    (insertLengthRows[k]? = some i → s.has (insertExtra.getD k 0) →
      exec i s = .next { s with
        bitpos := s.bitpos + insertExtra.getD k 0
        insertLen := insertBase.getD k 0 + s.peek (insertExtra.getD k 0) }) ∧
    (copyLengthRows[k]? = some i → s.has (copyExtra.getD k 0) →
      exec i s = .next { s with
        bitpos := s.bitpos + copyExtra.getD k 0
        copyLen := copyBase.getD k 0 + s.peek (copyExtra.getD k 0)
        distCtx := min k 3 })) ∧
  insertExtra = List.replicate 6 0 ++ [1, 1, 2, 2, 3, 3, 4, 4, 5, 5, 6, 7, 8, 9, 10, 12, 14, 24] ∧
  insertBase.length = 24 ∧ insertBase[0]? = some 0 ∧
  (∀ k, k < 23 → insertBase.getD (k + 1) 0 = insertBase.getD k 0 + 2 ^ insertExtra.getD k 0) ∧
  copyExtra = List.replicate 8 0 ++ [1, 1, 2, 2, 3, 3, 4, 4, 5, 5, 6, 7, 8, 9, 10, 24] ∧
  copyBase.length = 24 ∧ copyBase[0]? = some 2 ∧
  (∀ k, k < 23 → copyBase.getD (k + 1) 0 = copyBase.getD k 0 + 2 ^ copyExtra.getD k 0)

/-- The rows of the short distance codes, and their error (30_encoding.md R84; 43_command_loop.md R176). -/
def Obligations.ShortDistanceRows : Prop :=
  ∀ (s : State) (k l : Nat) (i : Instr) (d : Int), s.state = .commandLoop → s.cmdPhase = .distance →
    shortDistanceRows[k]? = some i → (shortDistances s.distRing)[k]? = some d → s.spells s.distanceCode k l →
    (0 < d → exec i s = .next (s.withDistance k d l)) ∧
    (d ≤ 0 → Raises (exec i s) s .formatDistance (s.bitpos + l))

/-- The rows of the direct and the long distance codes (30_encoding.md R85; 43_command_loop.md R177). -/
def Obligations.DirectAndLongDistanceRows : Prop :=
  ∀ (s : State) (k l : Nat), s.state = .commandLoop → s.cmdPhase = .distance → s.spells s.distanceCode k l →
    (16 ≤ k → exec (.distDirect k) s = .next (s.withDistance k (k - 15) l)) ∧
    (16 + s.ndirect ≤ k →
      let x := k - s.ndirect - 16
      let nbits := 1 + x / 2 ^ (s.npostfix + 1)
      let hcode := x / 2 ^ s.npostfix
      let lcode := x % 2 ^ s.npostfix
      let offset := (2 + hcode % 2) * 2 ^ nbits - 4
      s.has (l + nbits) →
      let d := (offset + s.inp.field (s.bitpos + l) nbits) * 2 ^ s.npostfix + lcode + s.ndirect + 1
      exec (.distLong k) s = .next (s.withDistance k d (l + nbits)))

/-! ### The rows of the static dictionary -/

/-- The rows of transform ops and of transforms, and the error of a reserved transform id (44_dictionary_transforms.md R194,
R197 to R199, R206). -/
def Obligations.TransformRowsRewriteTheWord : Prop :=
  ∀ s : State, s.state = .commandLoop → s.cmdPhase = .copy →
    let w := s.work.word
    let gives := fun (b : List Byte) => (.next { s with work := { s.work with word := b } } : Answer State)
    exec .topIdentity s = gives w ∧
    (∀ i k, (i, k) ∈ [(Instr.topOmitLast1, 1), (.topOmitLast2, 2), (.topOmitLast3, 3), (.topOmitLast4, 4),
        (.topOmitLast5, 5), (.topOmitLast6, 6), (.topOmitLast7, 7), (.topOmitLast8, 8), (.topOmitLast9, 9)] →
      exec i s = gives (w.take (w.length - k))) ∧
    (∀ i k, (i, k) ∈ [(Instr.topOmitFirst1, 1), (.topOmitFirst2, 2), (.topOmitFirst3, 3), (.topOmitFirst4, 4),
        (.topOmitFirst5, 5), (.topOmitFirst6, 6), (.topOmitFirst7, 7), (.topOmitFirst8, 8), (.topOmitFirst9, 9)] →
      exec i s = gives (w.drop k)) ∧
    exec .topUppercaseFirst s = gives (upperFirst w) ∧
    exec .topUppercaseAll s = gives (upperAll w) ∧
    (∀ param, exec (.topShiftFirst param) s = gives (shiftFirst w param) ∧
      exec (.topShiftAll param) s = gives (shiftAll w param)) ∧
    (∀ (tid : Nat) i (r : Transform), transformRows[tid]? = some i → transforms[tid]? = some r →
      exec i s = gives (r.pre ++ applyOp r.op w ++ r.suf)) ∧
    (∀ tid, Raises (exec (.transformReserved tid) s) s .formatTransform s.bitpos)

/-- The rows of the dictionary buckets: the index and the transform that the word id selects, and the word read, which always
lies in the dictionary; the buckets follow one another and fill it (44_dictionary_transforms.md R192, R193). -/
def Obligations.DictionaryBucketRows : Prop :=
  (∀ (s : State) (L : Nat) (i : Instr), s.state = .commandLoop → s.cmdPhase = .copy → s.dictReady → 4 ≤ L →
    dictBucketRows[L - 4]? = some i →
    ∃ bytes, s.dictRead (dictOffset L + s.work.wordId % 2 ^ dictBits L * L) L = some bytes ∧ bytes.length = L ∧
      exec i s = .next { s with
        work := { s.work with tid := s.work.wordId / 2 ^ dictBits L, word := bytes } }) ∧
  (∀ L, 4 ≤ L → L ≤ 23 → dictOffset (L + 1) = dictOffset L + L * 2 ^ dictBits L) ∧
  dictOffset 4 = 0 ∧ dictOffset 24 + 24 * 2 ^ dictBits 24 = Config.dictSize

/-! ### The ten operations -/

/-- STREAM_HEADER reads WBITS as `readWBITS` says, in parts of 1, 3 and 3 bits, and starts the first meta-block
(42_metablock.md R128, R129; 40_bitreader.md R97). -/
def Obligations.StreamHeaderReadsTheWindowSize : Prop :=
  ∀ s : State, s.state = .streamHeader → (∀ d, s.dict = some d → d.size = Config.dictSize) →
    ¬(s.inp.size = 0 ∧ s.params.emptyInputOk = true) →
    let p := s.bitpos
    let b := s.inp.field p 1
    let n := s.inp.field (p + 1) 3
    let m := s.inp.field (p + 4) 3
    let sets := fun k w => (.next { s with bitpos := p + k, wbits := w, state := .metaBlockHeader } : Answer State)
    (s.has 1 → b = 0 → exec .streamHeader s = sets 1 16) ∧
    (s.has 4 → b = 1 → n ≠ 0 → exec .streamHeader s = sets 4 (17 + n)) ∧
    (s.has 7 → b = 1 → n = 0 → m = 0 → exec .streamHeader s = sets 7 17) ∧
    (s.has 7 → b = 1 → n = 0 → 2 ≤ m → exec .streamHeader s = sets 7 (8 + m)) ∧
    (s.has 7 → b = 1 → n = 0 → m = 1 → s.params.largeWindow = false →
      Raises (exec .streamHeader s) s .formatWindowBits (p + 7)) ∧
    (s.has 7 → b = 1 → n = 0 → m = 1 → s.params.largeWindow = true → exec .streamHeader s = .refused .largeWindow) ∧
    (¬s.has 1 → Raises (exec .streamHeader s) s .invalidArguments p) ∧
    (s.has 1 → ¬s.has 4 → b = 1 → Raises (exec .streamHeader s) s .invalidArguments (p + 1)) ∧
    (s.has 4 → ¬s.has 7 → b = 1 → n = 0 → Raises (exec .streamHeader s) s .invalidArguments (p + 4))

/-- MHDR on a data meta-block: MLEN is the value of 4, 5 or 6 nibbles plus 1, a zero last nibble of more than four is an error,
ISUNCOMPRESSED is read only in a meta-block that is not last, and the body to come follows from it (42_metablock.md R132
to R136). -/
def Obligations.HeaderOfADataMetaBlock : Prop :=
  ∀ (s : State) (last : Bool), s.state = .metaBlockHeader →
    let q := s.bitpos + (if last then 2 else 1)
    let mn := s.inp.field q 2
    let nibbles := 4 + mn
    let v := s.inp.field (q + 2) (4 * nibbles)
    let r := q + 2 + 4 * nibbles
    let u := if last then 0 else s.inp.field r 1
    (if last then s.peek 2 = 1 else s.peek 1 = 0) → mn < 3 →
    (r + (if last then 0 else 1) ≤ s.inputBits → s.ringReady → mn = 0 ∨ 16 ^ (nibbles - 1) ≤ v →
      exec .mhdr s = .next { s with
        bitpos := r + (if last then 0 else 1)
        isLast := last
        isLastEmpty := if last then false else s.isLastEmpty
        isMetadata := false
        mlen := v + 1
        remaining := v + 1
        isUncompressed := decide (u = 1)
        work := .idle
        state := if u = 1 then .uncompressedBody else .compressedSetup }) ∧
    (r ≤ s.inputBits → mn ≠ 0 → v < 16 ^ (nibbles - 1) → Raises (exec .mhdr s) s .formatExuberantNibble r)

/-- MHDR on an empty last meta-block ends the stream after its padding; on a metadata meta-block it goes to Metadata
(42_metablock.md R132, R133; 40_bitreader.md R102). -/
def Obligations.HeaderWithoutData : Prop :=
  ∀ s : State, s.state = .metaBlockHeader →
    (s.has 2 → s.peek 2 = 3 →
      let t := { s with bitpos := s.bitpos + 2, isLast := true, isLastEmpty := true }
      let a := t.bitpos + t.padBits
      (t.endsCleanly → exec .mhdr s = .next { t with bitpos := a, state := .done }) ∧
      (t.peek t.padBits ≠ 0 → Raises (exec .mhdr s) s .formatPadding2 a) ∧
      (t.peek t.padBits = 0 → t.params.trailing = .reject → a < s.inputBits →
        Raises (exec .mhdr s) s .invalidArguments a)) ∧
    (s.has 3 → s.peek 3 = 6 → exec .mhdr s = .next { s with
      bitpos := s.bitpos + 3, isLast := false, isMetadata := true, state := .metadata }) ∧
    (s.has 4 → s.peek 4 = 13 → exec .mhdr s = .next { s with
      bitpos := s.bitpos + 4, isLast := true, isLastEmpty := false, isMetadata := true, state := .metadata })

/-- METADATA skips its bytes and produces nothing: the reserved bit, the length of 0 to 3 bytes, the padding, the skip, the end
of the meta-block; and its errors (42_metablock.md R137, R138, R140; 40_bitreader.md R100). -/
def Obligations.MetadataSkipsItsBytes : Prop :=
  ∀ s : State, s.state = .metadata →
    let p := s.bitpos
    let skb := s.inp.field (p + 1) 2
    let v := s.inp.field (p + 3) (8 * skb)
    let e := p + 3 + 8 * skb
    let a := 8 * ((e + 7) / 8)
    let len := if skb = 0 then 0 else v + 1
    let t := { s with bitpos := a + 8 * len, work := .idle }
    (s.has 1 → s.peek 1 = 1 → Raises (exec .metadata s) s .formatReserved (p + 1)) ∧
    (e ≤ s.inputBits → s.peek 1 = 0 → 2 ≤ skb → v < 256 ^ (skb - 1) →
      Raises (exec .metadata s) s .formatExuberantMetaNibble e) ∧
    (e ≤ s.inputBits → s.peek 1 = 0 → skb ≤ 1 ∨ 256 ^ (skb - 1) ≤ v → s.inp.field e (a - e) ≠ 0 →
      Raises (exec .metadata s) s .formatPadding1 a) ∧
    (e ≤ s.inputBits → s.peek 1 = 0 → skb ≤ 1 ∨ 256 ^ (skb - 1) ≤ v → s.inp.field e (a - e) = 0 →
      (s.inputBits < a + 8 * len → Raises (exec .metadata s) s .invalidArguments a) ∧
      (a + 8 * len ≤ s.inputBits → t.endsCleanly → exec .metadata s = .next t.closed))

/-- UNCOMPRESSED aligns, copies MLEN input bytes to the output, and ends the meta-block; and its errors (42_metablock.md R139,
R140; 40_bitreader.md R98, R99). -/
def Obligations.UncompressedCopiesItsBytes : Prop :=
  ∀ s : State, s.state = .uncompressedBody → s.inp.wf = true → s.bitpos ≤ s.inputBits →
    let a := 8 * ((s.bitpos + 7) / 8)
    let pad := s.inp.field s.bitpos (a - s.bitpos)
    let t := { s with
      bitpos := a + 8 * s.mlen, out := (s.appendAll ((s.inp.bytes.drop (a / 8)).take s.mlen)).out, remaining := 0 }
    (pad ≠ 0 → Raises (exec .uncompressed s) s .formatPadding1 a) ∧
    (pad = 0 → s.inputBits < a + 8 * s.mlen → Raises (exec .uncompressed s) s .invalidArguments a) ∧
    (pad = 0 → a + 8 * s.mlen ≤ s.inputBits → t.endsCleanly → exec .uncompressed s = .next t.closed)

/-- SETUP: of a meta-block in which every count is 1 and every prefix code is a simple code of one symbol, all the tables it
writes; of any meta-block, its parts in the order of R155: the block headers, one block type and several; the distance
parameters; the context modes; the context maps (what one comes to is in MoveToFrontKeepsTheRange); the tree groups, every
index in order; and a complex prefix code as a whole, the vector that its code-length symbols write (42_metablock.md R141 to
R147, R153 to R156; 10_state.md R45; 41_prefix_codes.md R104 to R118). That the one symbol of a simple code of one symbol
has length 1 in its vector is the model's form (log entry 6), and so are the empty codes of a category with one block type,
`Tracker.single` (log entry 17). -/
def Obligations.SetupWritesEveryTable : Prop :=
  (∀ s : State, s.state = .compressedSetup → s.params.allocFail = [] → s.has 49 →
    let p := s.bitpos
    let lit := s.inp.field (p + 17) 8
    let cmd := s.inp.field (p + 29) 10
    let dist := s.inp.field (p + 43) 6
    s.inp.field p 13 = 0 → s.inp.field (p + 13) 4 = 1 → s.inp.field (p + 25) 4 = 1 → s.inp.field (p + 39) 4 = 1 →
    cmd < 704 →
    exec .setup s = .next { s with
      bitpos := p + 49
      trackerL := .single
      trackerI := .single
      trackerD := .single
      npostfix := 0
      ndirect := 0
      cmode := [.lsb6]
      ntreesL := 1
      cmapL := List.replicate 64 0
      ntreesD := 1
      cmapD := List.replicate 4 0
      htreeL := [singleton 256 lit]
      htreeI := [singleton 704 cmd]
      htreeD := [singleton 64 dist]
      cmdPhase := .cmdBegin
      state := .commandLoop
      work := .idle }) ∧
  (∀ s a b c d e f g h : State, s.state = .compressedSetup → blockHeader .L s = .ok a → blockHeader .I a = .ok b →
    blockHeader .D b = .ok c → distanceParameters c = .ok d → contextModes d = .ok e →
    contextMap (64 * e.trackerL.nbltypes) e = .ok f →
    contextMap (4 * f.trackerD.nbltypes) { f with ntreesL := f.work.count + 1, cmapL := f.work.map } = .ok g →
    treeGroups { g with ntreesD := g.work.count + 1, cmapD := g.work.map } = .ok h →
    exec .setup s = .next { h with cmdPhase := .cmdBegin, state := .commandLoop, work := .idle }) ∧
  (∀ (k : Category) (s a : State), runElement (.field .varlen) s = .ok a →
    let n := a.work.count + 1
    (n = 1 → blockHeader k s = .ok (a.setTracker k .single)) ∧
    (2 ≤ n → AllocSite.blockTypeTrees ∉ s.params.allocFail → ∀ b d j l, readPrefixCode (n + 2) a = .ok b →
      readPrefixCode 26 b = .ok d → decodeSymbol d.work.lens d.window = .ok (j, l) →
      let extra := blockCountExtra.getD j 0
      d.has (l + extra) → blockHeader k s = .ok ((d.advance (l + extra)).setTracker k {
        nbltypes := n
        btype := 0
        blen := blockCountBase.getD j 0 + d.inp.field (d.bitpos + l) extra
        prevType := 1
        htreeBtype := b.work.lens
        htreeBlen := d.work.lens }))) ∧
  (∀ s : State, s.has 6 → distanceParameters s = .ok { s with
    bitpos := s.bitpos + 6
    npostfix := s.inp.field s.bitpos 2
    ndirect := s.inp.field (s.bitpos + 2) 4 * 2 ^ s.inp.field s.bitpos 2 }) ∧
  (∀ s : State, AllocSite.contextModes ∉ s.params.allocFail → s.has (2 * s.trackerL.nbltypes) →
    contextModes s = .ok { s with
      bitpos := s.bitpos + 2 * s.trackerL.nbltypes
      cmode := (List.range s.trackerL.nbltypes).map fun t =>
        [CtxMode.lsb6, .msb6, .utf8, .signed].getD (s.inp.field (s.bitpos + 2 * t) 2) .lsb6 }) ∧
  (∀ (s : State) (x : Nat → State), AllocSite.treeGroups ∉ s.params.allocFail →
    let nL := s.ntreesL
    let nI := s.trackerI.nbltypes
    let n := nL + nI + s.ntreesD
    x 0 = s →
    (∀ j, j < n → readPrefixCode (if j < nL then 256 else if j < nL + nI then 704 else s.distanceAlphabet) (x j) =
      .ok (x (j + 1))) →
    treeGroups s = .ok { s with
      bitpos := (x n).bitpos
      work := (x n).work
      htreeL := (List.range nL).map fun t => (x (t + 1)).work.lens
      htreeI := (List.range nI).map fun t => (x (nL + t + 1)).work.lens
      htreeD := (List.range s.ntreesD).map fun t => (x (nL + nI + t + 1)).work.lens }) ∧
  (∀ (s : State) (A hskip : Nat) (vs : List Nat) (items : List (Nat × Nat)), hskip ∈ [0, 2, 3] →
    vs.length ≤ 18 - hskip → (∀ v, v ∈ vs → v ≤ 5) → (∀ j, j < vs.length → share32 (vs.take j) < 32) →
    share32 vs = 32 ∨ (vs.length = 18 - hskip ∧ (vs.filter (· ≠ 0)).length = 1) →
    let order := [1, 2, 3, 4, 0, 5, 17, 6, 16, 7, 8, 9, 10, 11, 12, 13, 14, 15].drop hskip
    let cl := (List.range 18).map fun y => ((order.zip vs).lookup y).getD 0
    (∀ p, p ∈ items → (codeword cl p.1).isSome = true ∧ p.2 < 2 ^ repeatExtra p.1) →
    (∀ j, j < items.length →
      (Lengths.ofSymbols (items.take j)).lens.length < A ∧ kraft (Lengths.ofSymbols (items.take j)).lens < 32768) →
    let T := (Lengths.ofSymbols items).lens
    T.length ≤ A → kraft T = 32768 →
    let bits := bitsOf 2 hskip ++
      (vs.map fun v => pattern ([[0, 0], [1, 1, 1, 0], [1, 1, 0], [0, 1], [1, 0], [1, 1, 1, 1]].getD v [])).flatten ++
      (items.map fun p => (codewordBits cl p.1).getD [] ++ bitsOf (repeatExtra p.1) p.2).flatten
    s.has bits.length → s.inp.bits s.bitpos bits.length = bits →
    ∃ w, readPrefixCode A s = .ok { s with bitpos := s.bitpos + bits.length, work := w } ∧
      w.lens = T ++ List.replicate (A - T.length) 0)

/-- CMD: the block count, the command symbol of the active tree, its lengths, the overrun check, the next phase; a truncated
symbol is an error (43_command_loop.md R164 to R170, R173). -/
def Obligations.CommandOperation : Prop :=
  ∀ (s u : State) (T : PrefixCode), s.state = .commandLoop → s.cmdPhase = .cmdBegin → countSymbol .I s = .ok u →
    u.commandCode = some T →
    (∀ cmd l, decodeSymbol T u.window = .ok (cmd, l) → cmd < 704 →
      let t := u.withCommand cmd l
      t.bitpos ≤ s.inputBits →
      (t.insertLen ≠ 0 → t.insertLen ≤ s.remaining → exec .cmd s = .next { t with cmdPhase := .insert }) ∧
      (t.insertLen = 0 → t.canResume → exec .cmd s = .next (t.resume .distance)) ∧
      (s.remaining < t.insertLen → Raises (exec .cmd s) s .formatBlockLength1 t.bitpos)) ∧
    (∀ n, decodeSymbol T u.window = .error (.endOfInput n) → Raises (exec .cmd s) s .invalidArguments (u.bitpos + n))

/-- LIT: the block count, then a symbol of the tree that the context mode and the last two bytes choose, appended
(43_command_loop.md R171 to R173; 30_encoding.md R90). What
`contextId` is stands in ContextFollowsTheLastTwoBytes. The cursor lies in the input, as it always does (10_state.md R25). -/
def Obligations.LiteralOperation : Prop :=
  ∀ (s u : State) (mode : CtxMode) (tree : Nat) (T : PrefixCode), s.state = .commandLoop → s.cmdPhase = .insert →
    countSymbol .L s = .ok u → u.cmode[u.trackerL.btype]? = some mode →
    u.cmapL[64 * u.trackerL.btype + contextId mode (s.lastByte 1) (s.lastByte 2)]? = some tree →
    u.htreeL[tree]? = some T → s.bitpos ≤ s.inputBits →
    (∀ b l, decodeSymbol T u.window = .ok (b, l) → b < 256 →
      let t := u.withLiteral (BitVec.ofNat 8 b) l
      (t.insertLen ≠ 0 → exec .lit s = .next t) ∧
      (t.insertLen = 0 → t.canResume → exec .lit s = .next (t.resume .distance))) ∧
    (∀ n, decodeSymbol T u.window = .error (.endOfInput n) → Raises (exec .lit s) s .invalidArguments (u.bitpos + n))

/-- DIST: an implicit distance is the last one and reads nothing; an explicit one counts its block, and is a symbol of the tree
that the distance context chooses, short, direct or long (43_command_loop.md R174 to R177; 30_encoding.md R84, R85,
R91). The cursor lies in the input, as it always does (10_state.md R25). -/
def Obligations.DistanceOperation : Prop :=
  ∀ s : State, s.state = .commandLoop → s.cmdPhase = .distance →
    (s.implicitD0 = true → exec .dist s = .next (s.withDistance 0 s.distRing.d0 0)) ∧
    (s.implicitD0 = false → s.bitpos ≤ s.inputBits → ∀ (u : State) (tree : Nat) (T : PrefixCode) (k l : Nat),
      countSymbol .D s = .ok u →
      u.cmapD[4 * u.trackerD.btype + s.distCtx]? = some tree → u.htreeD[tree]? = some T →
      decodeSymbol T u.window = .ok (k, l) →
      (∀ d, k < 16 → (shortDistances s.distRing)[k]? = some d →
        (0 < d → exec .dist s = .next (u.withDistance k d l)) ∧
        (d ≤ 0 → Raises (exec .dist s) s .formatDistance (u.bitpos + l))) ∧
      (16 ≤ k → k < 16 + s.ndirect → exec .dist s = .next (u.withDistance k (k - 15) l)) ∧
      (16 + s.ndirect ≤ k → k ≤ 519 →
        let x := k - s.ndirect - 16
        let nbits := 1 + x / 2 ^ (s.npostfix + 1)
        let offset := (2 + x / 2 ^ s.npostfix % 2) * 2 ^ nbits - 4
        let d := (offset + s.inp.field (u.bitpos + l) nbits) * 2 ^ s.npostfix + x % 2 ^ s.npostfix + s.ndirect + 1
        u.has (l + nbits) → exec .dist s = .next (u.withDistance k d (l + nbits))))

/-- COPY: the ring update, the overrun check before any byte, then `copyLen` bytes, each the byte `distance` back at the moment
it is appended, so that a copy that overlaps itself repeats (43_command_loop.md R179 to R184; 70_reset_and_hazards.md
R235). -/
def Obligations.CopyRepeatsTheOutput : Prop :=
  ∀ (s : State) (d : Nat), s.state = .commandLoop → s.cmdPhase = .copy → s.out.wf = true → s.distance = d → 1 ≤ d →
    d ≤ min s.pos s.maxBackward →
    (s.remaining < s.copyLen → Raises (exec .copy s) s .formatBlockLength2 s.bitpos) ∧
    (s.copyLen ≤ s.remaining → ∃ o : Memory, o.wf = true ∧ o.size = s.pos + s.copyLen ∧
      (∀ a, a < s.pos → o.read a = s.out.read a) ∧
      (∀ a, s.pos ≤ a → a < s.pos + s.copyLen → o.read a = o.read (a - d)) ∧
      let t := { s with
        out := o
        remaining := s.remaining - s.copyLen
        distRing := if s.dcode = 0 then s.distRing
          else { d0 := d, d1 := s.distRing.d0, d2 := s.distRing.d1, d3 := s.distRing.d2 } }
      t.canResume → exec .copy s = .next (t.resume .cmdBegin))

/-- DICT: the four checks in their order, the word and the transform that the word id selects, the bytes appended; the ring and
the block counts stay (44_dictionary_transforms.md R190 to R195, R208, R209; 60_exceptions.md R219). -/
def Obligations.DictionaryOperation : Prop :=
  ∀ s : State, s.state = .commandLoop → s.cmdPhase = .copy → s.maxDist < s.distance → s.work = .idle →
    let L := s.copyLen
    let wordId := (s.distance - s.maxDist - 1).toNat
    let tid := wordId / 2 ^ dictBits L
    (s.dictAvailable = false → Raises (exec .dict s) s .dictionaryNotSet s.bitpos) ∧
    (s.dictReady → L < 4 ∨ 24 < L → Raises (exec .dict s) s .formatDictionary s.bitpos) ∧
    (s.dictReady → 4 ≤ L → L ≤ 24 → 121 ≤ tid → Raises (exec .dict s) s .formatTransform s.bitpos) ∧
    (s.dictReady → 4 ≤ L → L ≤ 24 → tid < 121 → ∃ word bytes,
      s.dictRead (dictOffset L + wordId % 2 ^ dictBits L * L) L = some word ∧ applyTransform word tid = some bytes ∧
      (s.remaining < bytes.length → Raises (exec .dict s) s .formatBlockLength2 s.bitpos) ∧
      (bytes.length ≤ s.remaining →
        let t := { s with out := (s.appendAll bytes).out, remaining := s.remaining - bytes.length }
        t.canResume → exec .dict s = .next (t.resume .cmdBegin)))

/-! ### Rules inside the operations -/

/-- A block switch is lazy: a category with one block type never counts; otherwise one symbol is counted off, after a switch
when the count has run out, and the switch moves the two-entry type ring and renews the count (43_command_loop.md R162,
R163, R185; 42_metablock.md R143, R144). -/
def Obligations.BlockSwitchIsLazy : Prop :=
  ∀ (c : Category) (s : State),
    let k := s.tracker c
    (k.nbltypes < 2 → countSymbol c s = .ok s) ∧
    (2 ≤ k.nbltypes → k.blen ≠ 0 → countSymbol c s = .ok (s.setTracker c { k with blen := k.blen - 1 })) ∧
    (2 ≤ k.nbltypes → k.blen = 0 → ∀ t l j m,
      decodeSymbol k.htreeBtype s.window = .ok (t, l) → t ≤ 257 →
      decodeSymbol k.htreeBlen (s.advance l).window = .ok (j, m) → j < 26 →
      let extra := blockCountExtra.getD j 0
      s.has (l + m + extra) →
      countSymbol c s = .ok ((s.advance (l + m + extra)).setTracker c { k with
        prevType := k.btype
        btype := if t = 0 then k.prevType else if t = 1 then (k.btype + 1) % k.nbltypes else t - 2
        blen := blockCountBase.getD j 0 + s.inp.field (s.bitpos + l + m) extra - 1 }))

/-- Whatever bits spell it, a prefix code that is read is valid: one used symbol, or lengths of at most 15 that fill the code
space exactly; and a complex one has at least two used symbols, which R118 marks as its inference from R117
(41_prefix_codes.md R117, R118). -/
def Obligations.PrefixCodesReadAreValid : Prop :=
  ∀ A s t, 2 ≤ A → readPrefixCode A s = .ok t →
    validCode A t.work.lens = true ∧ (t.work.hskip ≠ 1 → 2 ≤ (usedSymbols t.work.lens 0).length)

/-- Each allocation site raises its kind where ALLOC_FAIL holds, before the structure it guards is read
(42_metablock.md R157, R158; 60_exceptions.md R216). -/
def Obligations.AllocationSitesRaiseTheirKinds : Prop :=
  ∀ s : State,
    (AllocSite.contextModes ∈ s.params.allocFail →
      ∃ m, contextModes s = .error (.raise .allocContextModes m s.bitpos)) ∧
    (AllocSite.treeGroups ∈ s.params.allocFail → ∃ m, treeGroups s = .error (.raise .allocTreeGroups m s.bitpos)) ∧
    (AllocSite.blockTypeTrees ∈ s.params.allocFail → ∀ c t, runElement (.field .varlen) s = .ok t → 1 ≤ t.work.count →
      ∃ m, blockHeader c s = .error (.raise .allocBlockTypeTrees m t.bitpos)) ∧
    (AllocSite.contextMap ∈ s.params.allocFail → ∀ n t, runElement (.field .varlen) s = .ok t →
      ∃ m, contextMap n s = .error (.raise .allocContextMap m t.bitpos)) ∧
    (s.pos = 0 → AllocSite.ringBuffer1 ∈ s.params.allocFail →
      ∃ m, dispatchBody s = .error (.raise .allocRingBuffer1 m s.bitpos)) ∧
    (s.pos = 0 → AllocSite.ringBuffer1 ∉ s.params.allocFail → AllocSite.ringBuffer2 ∈ s.params.allocFail →
      ∃ m, dispatchBody s = .error (.raise .allocRingBuffer2 m s.bitpos))

/-- A context map: the inverse move-to-front takes each entry from its place in the list, puts it in front, and so keeps the
number of entries and each one below the number of trees; a map of one tree is all zeros, and one of several is what its
symbols write, one entry or a run of zeros each, and then the move-to-front where its flag is set (42_metablock.md R147 to
R153; 30_encoding.md R92). -/
def Obligations.MoveToFrontKeepsTheRange : Prop :=
  (∀ (n : Nat) (map : List Nat), n ≤ 256 → (∀ t, t ∈ map → t < n) →
    (moveToFront (List.range 256) map).length = map.length ∧ ∀ t, t ∈ moveToFront (List.range 256) map → t < n) ∧
  (∀ mtf : List Nat, moveToFront mtf [] = []) ∧
  (∀ (mtf map : List Nat) (idx val : Nat), mtf[idx]? = some val → ∃ moved : List Nat,
    moveToFront mtf (idx :: map) = val :: moveToFront moved map ∧ moved.length = mtf.length ∧ moved[0]? = some val ∧
    (∀ j, j < idx → moved[j + 1]? = mtf[j]?) ∧ (∀ j, idx < j → moved[j]? = mtf[j]?)) ∧
  (∀ (s a : State) (size : Nat), runElement (.field .varlen) s = .ok a →
    AllocSite.contextMap ∉ s.params.allocFail →
    (a.work.count = 0 → contextMap size s = .ok { a with work := { a.work with map := List.replicate size 0 } }) ∧
    (a.work.count ≠ 0 → ∀ b, readContextMap size (a.work.count + 1) a = .ok b →
      contextMap size s = .ok { b with work := { b.work with count := a.work.count } })) ∧
  (∀ (s a b : State) (size ntrees : Nat) (items : List (Nat × Nat)) (imtf : Bool), 2 ≤ ntrees → ntrees ≤ 256 →
    runElement (.field .rlemax) s = .ok a → readPrefixCode (ntrees + a.work.rlemax) a = .ok b →
    let rlemax := a.work.rlemax
    let code := b.work.lens
    let map := (items.map fun p =>
      if p.1 = 0 then [0] else if p.1 ≤ rlemax then List.replicate (2 ^ p.1 + p.2) 0 else [p.1 - rlemax]).flatten
    let bits := (items.map fun p =>
      (codewordBits code p.1).getD [] ++ if p.1 ≤ rlemax then bitsOf p.1 p.2 else []).flatten ++ [imtf]
    (∀ p, p ∈ items → (codeword code p.1).isSome = true ∧ (p.1 ≤ rlemax → p.2 < 2 ^ p.1)) → map.length = size →
    b.has bits.length → b.inp.bits b.bitpos bits.length = bits →
    readContextMap size ntrees s = .ok { b with
      bitpos := b.bitpos + bits.length
      work := { b.work with
        mapSize := size, map := if imtf then moveToFront (List.range 256) map else map } })

/-- The context of a literal: its id in each of the four modes, with the three tables (LUT0 and LUT1 by kinds of character:
white space, marks, digits, capital and small letters, the parts of longer characters); it lies below 64; and the two bytes
it depends on are the last two produced, whatever wrote them, and 0 before two exist (30_encoding.md R86 to R89; 10_state.md
R37; 70_reset_and_hazards.md R237). -/
def Obligations.ContextFollowsTheLastTwoBytes : Prop :=
  (∀ m p1 p2, p1 < 256 → p2 < 256 → contextId m p1 p2 < 64) ∧
  (let digit := fun b => 0x30 ≤ b ∧ b ≤ 0x39
    let capital := fun b => 0x41 ≤ b ∧ b ≤ 0x5A
    let small := fun b => 0x61 ≤ b ∧ b ≤ 0x7A
    let LUT0 := fun b : Nat =>
      if 0xC0 ≤ b then 2 + b % 2
      else if 0x80 ≤ b then b % 2
      else if b ∈ [0x09, 0x0A, 0x0D] then 4
      else if b < 0x20 ∨ b = 0x7F then 0
      else if b = 0x20 then 8
      else if b ∈ [0x22, 0x27] then 16
      else if b = 0x25 then 20
      else if b ∈ [0x28, 0x3C, 0x5B, 0x7B] then 24
      else if b ∈ [0x29, 0x3E, 0x5D, 0x7D] then 28
      else if b ∈ [0x2C, 0x3A, 0x3B] then 32
      else if b = 0x2E then 36
      else if b = 0x3D then 40
      else if digit b then 44
      else if b ∈ [0x41, 0x45, 0x49, 0x4F, 0x55] then 48
      else if capital b then 52
      else if b ∈ [0x61, 0x65, 0x69, 0x6F, 0x75] then 56
      else if small b then 60
      else 12
    let LUT1 := fun b : Nat =>
      if 0xC0 ≤ b then 2
      else if 0x7F ≤ b ∨ b ≤ 0x20 then 0
      else if small b then 3
      else if digit b ∨ capital b then 2
      else 1
    let LUT2 := fun b : Nat => ([1, 16, 64, 128, 192, 240, 255].filter (· ≤ b)).length
    ∀ p1 p2, p1 < 256 → p2 < 256 →
      contextId .lsb6 p1 p2 = p1 % 64 ∧ contextId .msb6 p1 p2 = p1 / 4 ∧
      contextId .utf8 p1 p2 = LUT0 p1 ||| LUT1 p2 ∧ contextId .signed p1 p2 = 8 * LUT2 p1 + LUT2 p2) ∧
  (∀ (s : State) (b : Byte), s.out.wf = true →
    (s.append b).lastByte 1 = b.toNat ∧ (s.append b).lastByte 2 = s.lastByte 1) ∧
  (∀ s : State, s.pos = 0 → s.lastByte 1 = 0 ∧ s.lastByte 2 = 0)

/-- Folding and shifting: what they make of each kind of character, the first one or all of them, a character at a time;
that they never change the length of a word; and that a change aimed past its end is discarded, and ends the walk
(44_dictionary_transforms.md R200 to R205). -/
def Obligations.FoldingKeepsTheLength : Prop :=
  (∀ w : List Byte, (upperFirst w).length = w.length ∧ (upperAll w).length = w.length ∧
    ∀ param, (shiftFirst w param).length = w.length ∧ (shiftAll w param).length = w.length) ∧
  (∀ (w : List Byte) (i : Nat) (b : Byte), w[i]? = some b →
    (0xC0 ≤ b → b < 0xE0 → w.length ≤ i + 1 → (toUpper w i).1 = w) ∧
    (0xE0 ≤ b → w.length ≤ i + 2 → (toUpper w i).1 = w)) ∧
  (∀ (w : List Byte) (i : Nat) (b : Byte) (scalar : Nat), w[i]? = some b →
    (0xC0 ≤ b → b < 0xE0 → w.length ≤ i + 1 → (shiftAt scalar w i).1 = w) ∧
    (0xE0 ≤ b → b < 0xF0 → w.length ≤ i + 2 → (shiftAt scalar w i).1 = w) ∧
    (0xF0 ≤ b → b < 0xF8 → w.length ≤ i + 3 → (shiftAt scalar w i).1 = w)) ∧
  (let folds := fun c d : List Byte =>
      ∀ rest, upperFirst (c ++ rest) = d ++ rest ∧ upperAll (c ++ rest) = d ++ upperAll rest
    let stays := fun w : List Byte => upperFirst w = w ∧ upperAll w = w
    (∀ b : Byte, b < 0xC0 → folds [b] [if 0x61 ≤ b ∧ b ≤ 0x7A then b ^^^ 0x20 else b]) ∧
    (∀ b c : Byte, 0xC0 ≤ b → b < 0xE0 → folds [b, c] [b, c ^^^ 0x20]) ∧
    (∀ b c d : Byte, 0xE0 ≤ b → folds [b, c, d] [b, c, d ^^^ 0x05]) ∧
    stays [] ∧ (∀ b : Byte, 0xC0 ≤ b → stays [b]) ∧ (∀ b c : Byte, 0xE0 ≤ b → stays [b, c])) ∧
  (∀ param : BitVec 16, (param.toNat < 0x8000 → shiftScalar param = 0x1000000 + param.toNat) ∧
    (0x8000 ≤ param.toNat → shiftScalar param = 0xFF8000 + (param.toNat - 0x8000))) ∧
  (∀ param : BitVec 16,
    let scalar := shiftScalar param
    let byte := fun n : Nat => BitVec.ofNat 8 n
    let low := fun b : Byte => b.toNat % 64
    let top := fun b : Byte => b.toNat / 64 * 64
    let shifts := fun c d : List Byte =>
      ∀ rest, shiftFirst (c ++ rest) param = d ++ rest ∧ shiftAll (c ++ rest) param = d ++ shiftAll rest param
    let stays := fun w : List Byte => shiftFirst w param = w ∧ shiftAll w param = w
    (∀ b : Byte, b < 0x80 → shifts [b] [byte ((scalar + b.toNat) % 128)]) ∧
    (∀ b : Byte, 0x80 ≤ b → b < 0xC0 ∨ 0xF8 ≤ b → shifts [b] [b]) ∧
    (∀ b c : Byte, 0xC0 ≤ b → b < 0xE0 →
      let v := scalar + (b.toNat % 32 * 64 + low c)
      shifts [b, c] [byte (0xC0 + v / 64 % 32), byte (top c + v % 64)]) ∧
    (∀ b c d : Byte, 0xE0 ≤ b → b < 0xF0 →
      let v := scalar + (b.toNat % 16 * 4096 + low c * 64 + low d)
      shifts [b, c, d] [byte (0xE0 + v / 4096 % 16), byte (top c + v / 64 % 64), byte (top d + v % 64)]) ∧
    (∀ b c d e : Byte, 0xF0 ≤ b → b < 0xF8 →
      let v := scalar + (b.toNat % 8 * 262144 + low c * 4096 + low d * 64 + low e)
      shifts [b, c, d, e] [byte (0xF0 + v / 262144 % 8), byte (top c + v / 4096 % 64), byte (top d + v / 64 % 64),
        byte (top e + v % 64)]) ∧
    stays [] ∧ (∀ b : Byte, 0xC0 ≤ b → b < 0xF8 → stays [b]) ∧ (∀ b c : Byte, 0xE0 ≤ b → b < 0xF8 → stays [b, c]) ∧
    (∀ b c d : Byte, 0xF0 ≤ b → b < 0xF8 → stays [b, c, d]))

/-- The transforms with an id below 121 are the ones defined, and a dictionary word becomes empty only under an id of 34 or more
and only when it has at most 9 bytes (44_dictionary_transforms.md R194, R206; 43_command_loop.md R189). -/
def Obligations.EmptyWordsNeedHighTransformIds : Prop :=
  (∀ w tid, (applyTransform w tid).isSome = true ↔ tid < 121) ∧
  (∀ w tid, 4 ≤ w.length → applyTransform w tid = some [] → 34 ≤ tid ∧ w.length ≤ 9)

end
end

