-- ==== Sys2Proof/Laws/State.lean ====
section
/-! SUPPORT. What each named update of the state leaves of each field: true by unfolding, so that no later proof unfolds a
record update. -/

namespace Sys2Proof.Machine

variable (s : State)

/-! ### `goto` -/

@[simp] theorem State.goto_params (st : DecState) : (s.goto st).params = s.params := rfl
@[simp] theorem State.goto_dict (st : DecState) : (s.goto st).dict = s.dict := rfl
@[simp] theorem State.goto_inp (st : DecState) : (s.goto st).inp = s.inp := rfl
@[simp] theorem State.goto_state (st : DecState) : (s.goto st).state = st := rfl
@[simp] theorem State.goto_cmdPhase (st : DecState) : (s.goto st).cmdPhase = s.cmdPhase := rfl
@[simp] theorem State.goto_err (st : DecState) : (s.goto st).err = s.err := rfl
@[simp] theorem State.goto_bitpos (st : DecState) : (s.goto st).bitpos = s.bitpos := rfl
@[simp] theorem State.goto_wbits (st : DecState) : (s.goto st).wbits = s.wbits := rfl
@[simp] theorem State.goto_isLast (st : DecState) : (s.goto st).isLast = s.isLast := rfl
@[simp] theorem State.goto_isLastEmpty (st : DecState) : (s.goto st).isLastEmpty = s.isLastEmpty := rfl
@[simp] theorem State.goto_isUncompressed (st : DecState) : (s.goto st).isUncompressed = s.isUncompressed := rfl
@[simp] theorem State.goto_isMetadata (st : DecState) : (s.goto st).isMetadata = s.isMetadata := rfl
@[simp] theorem State.goto_mlen (st : DecState) : (s.goto st).mlen = s.mlen := rfl
@[simp] theorem State.goto_remaining (st : DecState) : (s.goto st).remaining = s.remaining := rfl
@[simp] theorem State.goto_trackerL (st : DecState) : (s.goto st).trackerL = s.trackerL := rfl
@[simp] theorem State.goto_trackerI (st : DecState) : (s.goto st).trackerI = s.trackerI := rfl
@[simp] theorem State.goto_trackerD (st : DecState) : (s.goto st).trackerD = s.trackerD := rfl
@[simp] theorem State.goto_npostfix (st : DecState) : (s.goto st).npostfix = s.npostfix := rfl
@[simp] theorem State.goto_ndirect (st : DecState) : (s.goto st).ndirect = s.ndirect := rfl
@[simp] theorem State.goto_cmode (st : DecState) : (s.goto st).cmode = s.cmode := rfl
@[simp] theorem State.goto_ntreesL (st : DecState) : (s.goto st).ntreesL = s.ntreesL := rfl
@[simp] theorem State.goto_cmapL (st : DecState) : (s.goto st).cmapL = s.cmapL := rfl
@[simp] theorem State.goto_ntreesD (st : DecState) : (s.goto st).ntreesD = s.ntreesD := rfl
@[simp] theorem State.goto_cmapD (st : DecState) : (s.goto st).cmapD = s.cmapD := rfl
@[simp] theorem State.goto_htreeL (st : DecState) : (s.goto st).htreeL = s.htreeL := rfl
@[simp] theorem State.goto_htreeI (st : DecState) : (s.goto st).htreeI = s.htreeI := rfl
@[simp] theorem State.goto_htreeD (st : DecState) : (s.goto st).htreeD = s.htreeD := rfl
@[simp] theorem State.goto_distRing (st : DecState) : (s.goto st).distRing = s.distRing := rfl
@[simp] theorem State.goto_out (st : DecState) : (s.goto st).out = s.out := rfl
@[simp] theorem State.goto_insertLen (st : DecState) : (s.goto st).insertLen = s.insertLen := rfl
@[simp] theorem State.goto_copyLen (st : DecState) : (s.goto st).copyLen = s.copyLen := rfl
@[simp] theorem State.goto_implicitD0 (st : DecState) : (s.goto st).implicitD0 = s.implicitD0 := rfl
@[simp] theorem State.goto_distCtx (st : DecState) : (s.goto st).distCtx = s.distCtx := rfl
@[simp] theorem State.goto_dcode (st : DecState) : (s.goto st).dcode = s.dcode := rfl
@[simp] theorem State.goto_distance (st : DecState) : (s.goto st).distance = s.distance := rfl
@[simp] theorem State.goto_work (st : DecState) : (s.goto st).work = s.work := rfl

/-! ### `rest` -/

@[simp] theorem State.rest_params : (s.rest).params = s.params := rfl
@[simp] theorem State.rest_dict : (s.rest).dict = s.dict := rfl
@[simp] theorem State.rest_inp : (s.rest).inp = s.inp := rfl
@[simp] theorem State.rest_state : (s.rest).state = s.state := rfl
@[simp] theorem State.rest_cmdPhase : (s.rest).cmdPhase = s.cmdPhase := rfl
@[simp] theorem State.rest_err : (s.rest).err = s.err := rfl
@[simp] theorem State.rest_bitpos : (s.rest).bitpos = s.bitpos := rfl
@[simp] theorem State.rest_wbits : (s.rest).wbits = s.wbits := rfl
@[simp] theorem State.rest_isLast : (s.rest).isLast = s.isLast := rfl
@[simp] theorem State.rest_isLastEmpty : (s.rest).isLastEmpty = s.isLastEmpty := rfl
@[simp] theorem State.rest_isUncompressed : (s.rest).isUncompressed = s.isUncompressed := rfl
@[simp] theorem State.rest_isMetadata : (s.rest).isMetadata = s.isMetadata := rfl
@[simp] theorem State.rest_mlen : (s.rest).mlen = s.mlen := rfl
@[simp] theorem State.rest_remaining : (s.rest).remaining = s.remaining := rfl
@[simp] theorem State.rest_trackerL : (s.rest).trackerL = s.trackerL := rfl
@[simp] theorem State.rest_trackerI : (s.rest).trackerI = s.trackerI := rfl
@[simp] theorem State.rest_trackerD : (s.rest).trackerD = s.trackerD := rfl
@[simp] theorem State.rest_npostfix : (s.rest).npostfix = s.npostfix := rfl
@[simp] theorem State.rest_ndirect : (s.rest).ndirect = s.ndirect := rfl
@[simp] theorem State.rest_cmode : (s.rest).cmode = s.cmode := rfl
@[simp] theorem State.rest_ntreesL : (s.rest).ntreesL = s.ntreesL := rfl
@[simp] theorem State.rest_cmapL : (s.rest).cmapL = s.cmapL := rfl
@[simp] theorem State.rest_ntreesD : (s.rest).ntreesD = s.ntreesD := rfl
@[simp] theorem State.rest_cmapD : (s.rest).cmapD = s.cmapD := rfl
@[simp] theorem State.rest_htreeL : (s.rest).htreeL = s.htreeL := rfl
@[simp] theorem State.rest_htreeI : (s.rest).htreeI = s.htreeI := rfl
@[simp] theorem State.rest_htreeD : (s.rest).htreeD = s.htreeD := rfl
@[simp] theorem State.rest_distRing : (s.rest).distRing = s.distRing := rfl
@[simp] theorem State.rest_out : (s.rest).out = s.out := rfl
@[simp] theorem State.rest_insertLen : (s.rest).insertLen = s.insertLen := rfl
@[simp] theorem State.rest_copyLen : (s.rest).copyLen = s.copyLen := rfl
@[simp] theorem State.rest_implicitD0 : (s.rest).implicitD0 = s.implicitD0 := rfl
@[simp] theorem State.rest_distCtx : (s.rest).distCtx = s.distCtx := rfl
@[simp] theorem State.rest_dcode : (s.rest).dcode = s.dcode := rfl
@[simp] theorem State.rest_distance : (s.rest).distance = s.distance := rfl
@[simp] theorem State.rest_work : (s.rest).work = Work.idle := rfl

/-! ### `advance` -/

@[simp] theorem State.advance_params (n : Nat) : (s.advance n).params = s.params := rfl
@[simp] theorem State.advance_dict (n : Nat) : (s.advance n).dict = s.dict := rfl
@[simp] theorem State.advance_inp (n : Nat) : (s.advance n).inp = s.inp := rfl
@[simp] theorem State.advance_state (n : Nat) : (s.advance n).state = s.state := rfl
@[simp] theorem State.advance_cmdPhase (n : Nat) : (s.advance n).cmdPhase = s.cmdPhase := rfl
@[simp] theorem State.advance_err (n : Nat) : (s.advance n).err = s.err := rfl
@[simp] theorem State.advance_bitpos (n : Nat) : (s.advance n).bitpos = s.bitpos + n := rfl
@[simp] theorem State.advance_wbits (n : Nat) : (s.advance n).wbits = s.wbits := rfl
@[simp] theorem State.advance_isLast (n : Nat) : (s.advance n).isLast = s.isLast := rfl
@[simp] theorem State.advance_isLastEmpty (n : Nat) : (s.advance n).isLastEmpty = s.isLastEmpty := rfl
@[simp] theorem State.advance_isUncompressed (n : Nat) : (s.advance n).isUncompressed = s.isUncompressed := rfl
@[simp] theorem State.advance_isMetadata (n : Nat) : (s.advance n).isMetadata = s.isMetadata := rfl
@[simp] theorem State.advance_mlen (n : Nat) : (s.advance n).mlen = s.mlen := rfl
@[simp] theorem State.advance_remaining (n : Nat) : (s.advance n).remaining = s.remaining := rfl
@[simp] theorem State.advance_trackerL (n : Nat) : (s.advance n).trackerL = s.trackerL := rfl
@[simp] theorem State.advance_trackerI (n : Nat) : (s.advance n).trackerI = s.trackerI := rfl
@[simp] theorem State.advance_trackerD (n : Nat) : (s.advance n).trackerD = s.trackerD := rfl
@[simp] theorem State.advance_npostfix (n : Nat) : (s.advance n).npostfix = s.npostfix := rfl
@[simp] theorem State.advance_ndirect (n : Nat) : (s.advance n).ndirect = s.ndirect := rfl
@[simp] theorem State.advance_cmode (n : Nat) : (s.advance n).cmode = s.cmode := rfl
@[simp] theorem State.advance_ntreesL (n : Nat) : (s.advance n).ntreesL = s.ntreesL := rfl
@[simp] theorem State.advance_cmapL (n : Nat) : (s.advance n).cmapL = s.cmapL := rfl
@[simp] theorem State.advance_ntreesD (n : Nat) : (s.advance n).ntreesD = s.ntreesD := rfl
@[simp] theorem State.advance_cmapD (n : Nat) : (s.advance n).cmapD = s.cmapD := rfl
@[simp] theorem State.advance_htreeL (n : Nat) : (s.advance n).htreeL = s.htreeL := rfl
@[simp] theorem State.advance_htreeI (n : Nat) : (s.advance n).htreeI = s.htreeI := rfl
@[simp] theorem State.advance_htreeD (n : Nat) : (s.advance n).htreeD = s.htreeD := rfl
@[simp] theorem State.advance_distRing (n : Nat) : (s.advance n).distRing = s.distRing := rfl
@[simp] theorem State.advance_out (n : Nat) : (s.advance n).out = s.out := rfl
@[simp] theorem State.advance_insertLen (n : Nat) : (s.advance n).insertLen = s.insertLen := rfl
@[simp] theorem State.advance_copyLen (n : Nat) : (s.advance n).copyLen = s.copyLen := rfl
@[simp] theorem State.advance_implicitD0 (n : Nat) : (s.advance n).implicitD0 = s.implicitD0 := rfl
@[simp] theorem State.advance_distCtx (n : Nat) : (s.advance n).distCtx = s.distCtx := rfl
@[simp] theorem State.advance_dcode (n : Nat) : (s.advance n).dcode = s.dcode := rfl
@[simp] theorem State.advance_distance (n : Nat) : (s.advance n).distance = s.distance := rfl
@[simp] theorem State.advance_work (n : Nat) : (s.advance n).work = s.work := rfl

/-! ### `append` -/

@[simp] theorem State.append_params (b : Byte) : (s.append b).params = s.params := rfl
@[simp] theorem State.append_dict (b : Byte) : (s.append b).dict = s.dict := rfl
@[simp] theorem State.append_inp (b : Byte) : (s.append b).inp = s.inp := rfl
@[simp] theorem State.append_state (b : Byte) : (s.append b).state = s.state := rfl
@[simp] theorem State.append_cmdPhase (b : Byte) : (s.append b).cmdPhase = s.cmdPhase := rfl
@[simp] theorem State.append_err (b : Byte) : (s.append b).err = s.err := rfl
@[simp] theorem State.append_bitpos (b : Byte) : (s.append b).bitpos = s.bitpos := rfl
@[simp] theorem State.append_wbits (b : Byte) : (s.append b).wbits = s.wbits := rfl
@[simp] theorem State.append_isLast (b : Byte) : (s.append b).isLast = s.isLast := rfl
@[simp] theorem State.append_isLastEmpty (b : Byte) : (s.append b).isLastEmpty = s.isLastEmpty := rfl
@[simp] theorem State.append_isUncompressed (b : Byte) : (s.append b).isUncompressed = s.isUncompressed := rfl
@[simp] theorem State.append_isMetadata (b : Byte) : (s.append b).isMetadata = s.isMetadata := rfl
@[simp] theorem State.append_mlen (b : Byte) : (s.append b).mlen = s.mlen := rfl
@[simp] theorem State.append_remaining (b : Byte) : (s.append b).remaining = s.remaining := rfl
@[simp] theorem State.append_trackerL (b : Byte) : (s.append b).trackerL = s.trackerL := rfl
@[simp] theorem State.append_trackerI (b : Byte) : (s.append b).trackerI = s.trackerI := rfl
@[simp] theorem State.append_trackerD (b : Byte) : (s.append b).trackerD = s.trackerD := rfl
@[simp] theorem State.append_npostfix (b : Byte) : (s.append b).npostfix = s.npostfix := rfl
@[simp] theorem State.append_ndirect (b : Byte) : (s.append b).ndirect = s.ndirect := rfl
@[simp] theorem State.append_cmode (b : Byte) : (s.append b).cmode = s.cmode := rfl
@[simp] theorem State.append_ntreesL (b : Byte) : (s.append b).ntreesL = s.ntreesL := rfl
@[simp] theorem State.append_cmapL (b : Byte) : (s.append b).cmapL = s.cmapL := rfl
@[simp] theorem State.append_ntreesD (b : Byte) : (s.append b).ntreesD = s.ntreesD := rfl
@[simp] theorem State.append_cmapD (b : Byte) : (s.append b).cmapD = s.cmapD := rfl
@[simp] theorem State.append_htreeL (b : Byte) : (s.append b).htreeL = s.htreeL := rfl
@[simp] theorem State.append_htreeI (b : Byte) : (s.append b).htreeI = s.htreeI := rfl
@[simp] theorem State.append_htreeD (b : Byte) : (s.append b).htreeD = s.htreeD := rfl
@[simp] theorem State.append_distRing (b : Byte) : (s.append b).distRing = s.distRing := rfl
@[simp] theorem State.append_out (b : Byte) : (s.append b).out = s.out.push b := rfl
@[simp] theorem State.append_insertLen (b : Byte) : (s.append b).insertLen = s.insertLen := rfl
@[simp] theorem State.append_copyLen (b : Byte) : (s.append b).copyLen = s.copyLen := rfl
@[simp] theorem State.append_implicitD0 (b : Byte) : (s.append b).implicitD0 = s.implicitD0 := rfl
@[simp] theorem State.append_distCtx (b : Byte) : (s.append b).distCtx = s.distCtx := rfl
@[simp] theorem State.append_dcode (b : Byte) : (s.append b).dcode = s.dcode := rfl
@[simp] theorem State.append_distance (b : Byte) : (s.append b).distance = s.distance := rfl
@[simp] theorem State.append_work (b : Byte) : (s.append b).work = s.work := rfl

/-! ### `appendAll` -/

@[simp] theorem State.appendAll_params (bs : List Byte) : (s.appendAll bs).params = s.params := by
  induction bs generalizing s with
  | nil => rfl
  | cons b bs ih => simp [State.appendAll, ih]
@[simp] theorem State.appendAll_dict (bs : List Byte) : (s.appendAll bs).dict = s.dict := by
  induction bs generalizing s with
  | nil => rfl
  | cons b bs ih => simp [State.appendAll, ih]
@[simp] theorem State.appendAll_inp (bs : List Byte) : (s.appendAll bs).inp = s.inp := by
  induction bs generalizing s with
  | nil => rfl
  | cons b bs ih => simp [State.appendAll, ih]
@[simp] theorem State.appendAll_state (bs : List Byte) : (s.appendAll bs).state = s.state := by
  induction bs generalizing s with
  | nil => rfl
  | cons b bs ih => simp [State.appendAll, ih]
@[simp] theorem State.appendAll_cmdPhase (bs : List Byte) : (s.appendAll bs).cmdPhase = s.cmdPhase := by
  induction bs generalizing s with
  | nil => rfl
  | cons b bs ih => simp [State.appendAll, ih]
@[simp] theorem State.appendAll_err (bs : List Byte) : (s.appendAll bs).err = s.err := by
  induction bs generalizing s with
  | nil => rfl
  | cons b bs ih => simp [State.appendAll, ih]
@[simp] theorem State.appendAll_bitpos (bs : List Byte) : (s.appendAll bs).bitpos = s.bitpos := by
  induction bs generalizing s with
  | nil => rfl
  | cons b bs ih => simp [State.appendAll, ih]
@[simp] theorem State.appendAll_wbits (bs : List Byte) : (s.appendAll bs).wbits = s.wbits := by
  induction bs generalizing s with
  | nil => rfl
  | cons b bs ih => simp [State.appendAll, ih]
@[simp] theorem State.appendAll_isLast (bs : List Byte) : (s.appendAll bs).isLast = s.isLast := by
  induction bs generalizing s with
  | nil => rfl
  | cons b bs ih => simp [State.appendAll, ih]
@[simp] theorem State.appendAll_isLastEmpty (bs : List Byte) : (s.appendAll bs).isLastEmpty = s.isLastEmpty := by
  induction bs generalizing s with
  | nil => rfl
  | cons b bs ih => simp [State.appendAll, ih]
@[simp] theorem State.appendAll_isUncompressed (bs : List Byte) : (s.appendAll bs).isUncompressed = s.isUncompressed := by
  induction bs generalizing s with
  | nil => rfl
  | cons b bs ih => simp [State.appendAll, ih]
@[simp] theorem State.appendAll_isMetadata (bs : List Byte) : (s.appendAll bs).isMetadata = s.isMetadata := by
  induction bs generalizing s with
  | nil => rfl
  | cons b bs ih => simp [State.appendAll, ih]
@[simp] theorem State.appendAll_mlen (bs : List Byte) : (s.appendAll bs).mlen = s.mlen := by
  induction bs generalizing s with
  | nil => rfl
  | cons b bs ih => simp [State.appendAll, ih]
@[simp] theorem State.appendAll_remaining (bs : List Byte) : (s.appendAll bs).remaining = s.remaining := by
  induction bs generalizing s with
  | nil => rfl
  | cons b bs ih => simp [State.appendAll, ih]
@[simp] theorem State.appendAll_trackerL (bs : List Byte) : (s.appendAll bs).trackerL = s.trackerL := by
  induction bs generalizing s with
  | nil => rfl
  | cons b bs ih => simp [State.appendAll, ih]
@[simp] theorem State.appendAll_trackerI (bs : List Byte) : (s.appendAll bs).trackerI = s.trackerI := by
  induction bs generalizing s with
  | nil => rfl
  | cons b bs ih => simp [State.appendAll, ih]
@[simp] theorem State.appendAll_trackerD (bs : List Byte) : (s.appendAll bs).trackerD = s.trackerD := by
  induction bs generalizing s with
  | nil => rfl
  | cons b bs ih => simp [State.appendAll, ih]
@[simp] theorem State.appendAll_npostfix (bs : List Byte) : (s.appendAll bs).npostfix = s.npostfix := by
  induction bs generalizing s with
  | nil => rfl
  | cons b bs ih => simp [State.appendAll, ih]
@[simp] theorem State.appendAll_ndirect (bs : List Byte) : (s.appendAll bs).ndirect = s.ndirect := by
  induction bs generalizing s with
  | nil => rfl
  | cons b bs ih => simp [State.appendAll, ih]
@[simp] theorem State.appendAll_cmode (bs : List Byte) : (s.appendAll bs).cmode = s.cmode := by
  induction bs generalizing s with
  | nil => rfl
  | cons b bs ih => simp [State.appendAll, ih]
@[simp] theorem State.appendAll_ntreesL (bs : List Byte) : (s.appendAll bs).ntreesL = s.ntreesL := by
  induction bs generalizing s with
  | nil => rfl
  | cons b bs ih => simp [State.appendAll, ih]
@[simp] theorem State.appendAll_cmapL (bs : List Byte) : (s.appendAll bs).cmapL = s.cmapL := by
  induction bs generalizing s with
  | nil => rfl
  | cons b bs ih => simp [State.appendAll, ih]
@[simp] theorem State.appendAll_ntreesD (bs : List Byte) : (s.appendAll bs).ntreesD = s.ntreesD := by
  induction bs generalizing s with
  | nil => rfl
  | cons b bs ih => simp [State.appendAll, ih]
@[simp] theorem State.appendAll_cmapD (bs : List Byte) : (s.appendAll bs).cmapD = s.cmapD := by
  induction bs generalizing s with
  | nil => rfl
  | cons b bs ih => simp [State.appendAll, ih]
@[simp] theorem State.appendAll_htreeL (bs : List Byte) : (s.appendAll bs).htreeL = s.htreeL := by
  induction bs generalizing s with
  | nil => rfl
  | cons b bs ih => simp [State.appendAll, ih]
@[simp] theorem State.appendAll_htreeI (bs : List Byte) : (s.appendAll bs).htreeI = s.htreeI := by
  induction bs generalizing s with
  | nil => rfl
  | cons b bs ih => simp [State.appendAll, ih]
@[simp] theorem State.appendAll_htreeD (bs : List Byte) : (s.appendAll bs).htreeD = s.htreeD := by
  induction bs generalizing s with
  | nil => rfl
  | cons b bs ih => simp [State.appendAll, ih]
@[simp] theorem State.appendAll_distRing (bs : List Byte) : (s.appendAll bs).distRing = s.distRing := by
  induction bs generalizing s with
  | nil => rfl
  | cons b bs ih => simp [State.appendAll, ih]
@[simp] theorem State.appendAll_insertLen (bs : List Byte) : (s.appendAll bs).insertLen = s.insertLen := by
  induction bs generalizing s with
  | nil => rfl
  | cons b bs ih => simp [State.appendAll, ih]
@[simp] theorem State.appendAll_copyLen (bs : List Byte) : (s.appendAll bs).copyLen = s.copyLen := by
  induction bs generalizing s with
  | nil => rfl
  | cons b bs ih => simp [State.appendAll, ih]
@[simp] theorem State.appendAll_implicitD0 (bs : List Byte) : (s.appendAll bs).implicitD0 = s.implicitD0 := by
  induction bs generalizing s with
  | nil => rfl
  | cons b bs ih => simp [State.appendAll, ih]
@[simp] theorem State.appendAll_distCtx (bs : List Byte) : (s.appendAll bs).distCtx = s.distCtx := by
  induction bs generalizing s with
  | nil => rfl
  | cons b bs ih => simp [State.appendAll, ih]
@[simp] theorem State.appendAll_dcode (bs : List Byte) : (s.appendAll bs).dcode = s.dcode := by
  induction bs generalizing s with
  | nil => rfl
  | cons b bs ih => simp [State.appendAll, ih]
@[simp] theorem State.appendAll_distance (bs : List Byte) : (s.appendAll bs).distance = s.distance := by
  induction bs generalizing s with
  | nil => rfl
  | cons b bs ih => simp [State.appendAll, ih]
@[simp] theorem State.appendAll_work (bs : List Byte) : (s.appendAll bs).work = s.work := by
  induction bs generalizing s with
  | nil => rfl
  | cons b bs ih => simp [State.appendAll, ih]

/-! ### `setTracker` -/

@[simp] theorem State.setTracker_params (c : Category) (k : Tracker) : (s.setTracker c k).params = s.params := by cases c <;> rfl
@[simp] theorem State.setTracker_dict (c : Category) (k : Tracker) : (s.setTracker c k).dict = s.dict := by cases c <;> rfl
@[simp] theorem State.setTracker_inp (c : Category) (k : Tracker) : (s.setTracker c k).inp = s.inp := by cases c <;> rfl
@[simp] theorem State.setTracker_state (c : Category) (k : Tracker) : (s.setTracker c k).state = s.state := by cases c <;> rfl
@[simp] theorem State.setTracker_cmdPhase (c : Category) (k : Tracker) : (s.setTracker c k).cmdPhase = s.cmdPhase := by cases c <;> rfl
@[simp] theorem State.setTracker_err (c : Category) (k : Tracker) : (s.setTracker c k).err = s.err := by cases c <;> rfl
@[simp] theorem State.setTracker_bitpos (c : Category) (k : Tracker) : (s.setTracker c k).bitpos = s.bitpos := by cases c <;> rfl
@[simp] theorem State.setTracker_wbits (c : Category) (k : Tracker) : (s.setTracker c k).wbits = s.wbits := by cases c <;> rfl
@[simp] theorem State.setTracker_isLast (c : Category) (k : Tracker) : (s.setTracker c k).isLast = s.isLast := by cases c <;> rfl
@[simp] theorem State.setTracker_isLastEmpty (c : Category) (k : Tracker) : (s.setTracker c k).isLastEmpty = s.isLastEmpty := by cases c <;> rfl
@[simp] theorem State.setTracker_isUncompressed (c : Category) (k : Tracker) : (s.setTracker c k).isUncompressed = s.isUncompressed := by cases c <;> rfl
@[simp] theorem State.setTracker_isMetadata (c : Category) (k : Tracker) : (s.setTracker c k).isMetadata = s.isMetadata := by cases c <;> rfl
@[simp] theorem State.setTracker_mlen (c : Category) (k : Tracker) : (s.setTracker c k).mlen = s.mlen := by cases c <;> rfl
@[simp] theorem State.setTracker_remaining (c : Category) (k : Tracker) : (s.setTracker c k).remaining = s.remaining := by cases c <;> rfl
@[simp] theorem State.setTracker_npostfix (c : Category) (k : Tracker) : (s.setTracker c k).npostfix = s.npostfix := by cases c <;> rfl
@[simp] theorem State.setTracker_ndirect (c : Category) (k : Tracker) : (s.setTracker c k).ndirect = s.ndirect := by cases c <;> rfl
@[simp] theorem State.setTracker_cmode (c : Category) (k : Tracker) : (s.setTracker c k).cmode = s.cmode := by cases c <;> rfl
@[simp] theorem State.setTracker_ntreesL (c : Category) (k : Tracker) : (s.setTracker c k).ntreesL = s.ntreesL := by cases c <;> rfl
@[simp] theorem State.setTracker_cmapL (c : Category) (k : Tracker) : (s.setTracker c k).cmapL = s.cmapL := by cases c <;> rfl
@[simp] theorem State.setTracker_ntreesD (c : Category) (k : Tracker) : (s.setTracker c k).ntreesD = s.ntreesD := by cases c <;> rfl
@[simp] theorem State.setTracker_cmapD (c : Category) (k : Tracker) : (s.setTracker c k).cmapD = s.cmapD := by cases c <;> rfl
@[simp] theorem State.setTracker_htreeL (c : Category) (k : Tracker) : (s.setTracker c k).htreeL = s.htreeL := by cases c <;> rfl
@[simp] theorem State.setTracker_htreeI (c : Category) (k : Tracker) : (s.setTracker c k).htreeI = s.htreeI := by cases c <;> rfl
@[simp] theorem State.setTracker_htreeD (c : Category) (k : Tracker) : (s.setTracker c k).htreeD = s.htreeD := by cases c <;> rfl
@[simp] theorem State.setTracker_distRing (c : Category) (k : Tracker) : (s.setTracker c k).distRing = s.distRing := by cases c <;> rfl
@[simp] theorem State.setTracker_out (c : Category) (k : Tracker) : (s.setTracker c k).out = s.out := by cases c <;> rfl
@[simp] theorem State.setTracker_insertLen (c : Category) (k : Tracker) : (s.setTracker c k).insertLen = s.insertLen := by cases c <;> rfl
@[simp] theorem State.setTracker_copyLen (c : Category) (k : Tracker) : (s.setTracker c k).copyLen = s.copyLen := by cases c <;> rfl
@[simp] theorem State.setTracker_implicitD0 (c : Category) (k : Tracker) : (s.setTracker c k).implicitD0 = s.implicitD0 := by cases c <;> rfl
@[simp] theorem State.setTracker_distCtx (c : Category) (k : Tracker) : (s.setTracker c k).distCtx = s.distCtx := by cases c <;> rfl
@[simp] theorem State.setTracker_dcode (c : Category) (k : Tracker) : (s.setTracker c k).dcode = s.dcode := by cases c <;> rfl
@[simp] theorem State.setTracker_distance (c : Category) (k : Tracker) : (s.setTracker c k).distance = s.distance := by cases c <;> rfl
@[simp] theorem State.setTracker_work (c : Category) (k : Tracker) : (s.setTracker c k).work = s.work := by cases c <;> rfl

@[simp] theorem State.tracker_setTracker (c : Category) (k : Tracker) : (s.setTracker c k).tracker c = k := by
  cases c <;> rfl
@[simp] theorem State.setTracker_setTracker (c : Category) (k k' : Tracker) :
    (s.setTracker c k).setTracker c k' = s.setTracker c k' := by cases c <;> rfl
@[simp] theorem State.setTracker_tracker (c : Category) : s.setTracker c (s.tracker c) = s := by cases c <;> rfl
theorem State.tracker_setTracker_of_ne (c d : Category) (k : Tracker) (h : d ≠ c) :
    (s.setTracker c k).tracker d = s.tracker d := by cases c <;> cases d <;> first | rfl | exact absurd rfl h
@[simp] theorem State.advance_tracker (n : Nat) (c : Category) : (s.advance n).tracker c = s.tracker c := by
  cases c <;> rfl
theorem State.advance_setTracker (n : Nat) (c : Category) (k : Tracker) :
    (s.setTracker c k).advance n = (s.advance n).setTracker c k := by cases c <;> rfl

/-! ### `takeError` -/

@[simp] theorem State.takeError_params (k : ErrorKind) (m : String) : (takeError k m s).params = s.params := rfl
@[simp] theorem State.takeError_dict (k : ErrorKind) (m : String) : (takeError k m s).dict = s.dict := rfl
@[simp] theorem State.takeError_inp (k : ErrorKind) (m : String) : (takeError k m s).inp = s.inp := rfl
@[simp] theorem State.takeError_state (k : ErrorKind) (m : String) : (takeError k m s).state = .error := rfl
@[simp] theorem State.takeError_cmdPhase (k : ErrorKind) (m : String) : (takeError k m s).cmdPhase = s.cmdPhase := rfl
@[simp] theorem State.takeError_err (k : ErrorKind) (m : String) : (takeError k m s).err = some { kind := k, code := Config.errorCode k, message := m } := rfl
@[simp] theorem State.takeError_bitpos (k : ErrorKind) (m : String) : (takeError k m s).bitpos = s.bitpos := rfl
@[simp] theorem State.takeError_wbits (k : ErrorKind) (m : String) : (takeError k m s).wbits = s.wbits := rfl
@[simp] theorem State.takeError_isLast (k : ErrorKind) (m : String) : (takeError k m s).isLast = s.isLast := rfl
@[simp] theorem State.takeError_isLastEmpty (k : ErrorKind) (m : String) : (takeError k m s).isLastEmpty = s.isLastEmpty := rfl
@[simp] theorem State.takeError_isUncompressed (k : ErrorKind) (m : String) : (takeError k m s).isUncompressed = s.isUncompressed := rfl
@[simp] theorem State.takeError_isMetadata (k : ErrorKind) (m : String) : (takeError k m s).isMetadata = s.isMetadata := rfl
@[simp] theorem State.takeError_mlen (k : ErrorKind) (m : String) : (takeError k m s).mlen = s.mlen := rfl
@[simp] theorem State.takeError_remaining (k : ErrorKind) (m : String) : (takeError k m s).remaining = s.remaining := rfl
@[simp] theorem State.takeError_trackerL (k : ErrorKind) (m : String) : (takeError k m s).trackerL = s.trackerL := rfl
@[simp] theorem State.takeError_trackerI (k : ErrorKind) (m : String) : (takeError k m s).trackerI = s.trackerI := rfl
@[simp] theorem State.takeError_trackerD (k : ErrorKind) (m : String) : (takeError k m s).trackerD = s.trackerD := rfl
@[simp] theorem State.takeError_npostfix (k : ErrorKind) (m : String) : (takeError k m s).npostfix = s.npostfix := rfl
@[simp] theorem State.takeError_ndirect (k : ErrorKind) (m : String) : (takeError k m s).ndirect = s.ndirect := rfl
@[simp] theorem State.takeError_cmode (k : ErrorKind) (m : String) : (takeError k m s).cmode = s.cmode := rfl
@[simp] theorem State.takeError_ntreesL (k : ErrorKind) (m : String) : (takeError k m s).ntreesL = s.ntreesL := rfl
@[simp] theorem State.takeError_cmapL (k : ErrorKind) (m : String) : (takeError k m s).cmapL = s.cmapL := rfl
@[simp] theorem State.takeError_ntreesD (k : ErrorKind) (m : String) : (takeError k m s).ntreesD = s.ntreesD := rfl
@[simp] theorem State.takeError_cmapD (k : ErrorKind) (m : String) : (takeError k m s).cmapD = s.cmapD := rfl
@[simp] theorem State.takeError_htreeL (k : ErrorKind) (m : String) : (takeError k m s).htreeL = s.htreeL := rfl
@[simp] theorem State.takeError_htreeI (k : ErrorKind) (m : String) : (takeError k m s).htreeI = s.htreeI := rfl
@[simp] theorem State.takeError_htreeD (k : ErrorKind) (m : String) : (takeError k m s).htreeD = s.htreeD := rfl
@[simp] theorem State.takeError_distRing (k : ErrorKind) (m : String) : (takeError k m s).distRing = s.distRing := rfl
@[simp] theorem State.takeError_out (k : ErrorKind) (m : String) : (takeError k m s).out = s.out := rfl
@[simp] theorem State.takeError_insertLen (k : ErrorKind) (m : String) : (takeError k m s).insertLen = s.insertLen := rfl
@[simp] theorem State.takeError_copyLen (k : ErrorKind) (m : String) : (takeError k m s).copyLen = s.copyLen := rfl
@[simp] theorem State.takeError_implicitD0 (k : ErrorKind) (m : String) : (takeError k m s).implicitD0 = s.implicitD0 := rfl
@[simp] theorem State.takeError_distCtx (k : ErrorKind) (m : String) : (takeError k m s).distCtx = s.distCtx := rfl
@[simp] theorem State.takeError_dcode (k : ErrorKind) (m : String) : (takeError k m s).dcode = s.dcode := rfl
@[simp] theorem State.takeError_distance (k : ErrorKind) (m : String) : (takeError k m s).distance = s.distance := rfl
@[simp] theorem State.takeError_work (k : ErrorKind) (m : String) : (takeError k m s).work = s.work := rfl

/-! ### What is derived from the fields -/

@[simp] theorem State.advance_zero : s.advance 0 = s := rfl
@[simp] theorem State.advance_advance (m n : Nat) : (s.advance m).advance n = s.advance (m + n) := by
  simp [State.advance, Nat.add_assoc]
@[simp] theorem State.advance_inputBits (n : Nat) : (s.advance n).inputBits = s.inputBits := rfl
@[simp] theorem State.goto_inputBits (st : DecState) : (s.goto st).inputBits = s.inputBits := rfl
@[simp] theorem State.append_inputBits (b : Byte) : (s.append b).inputBits = s.inputBits := rfl
@[simp] theorem State.appendAll_inputBits (bs : List Byte) : (s.appendAll bs).inputBits = s.inputBits := by
  simp [State.inputBits]
@[simp] theorem State.setTracker_inputBits (c : Category) (k : Tracker) : (s.setTracker c k).inputBits = s.inputBits := by
  simp [State.inputBits]
@[simp] theorem State.advance_pos (n : Nat) : (s.advance n).pos = s.pos := rfl
@[simp] theorem State.append_pos (b : Byte) : (s.append b).pos = s.pos + 1 := by
  simp [State.pos, State.append, Memory.push, Memory.size]
@[simp] theorem State.appendAll_pos (bs : List Byte) : (s.appendAll bs).pos = s.pos + bs.length := by
  induction bs generalizing s with
  | nil => rfl
  | cons b bs ih => simp only [State.appendAll, ih, State.append_pos, List.length_cons]; omega
theorem State.appendAll_append (bs cs : List Byte) : s.appendAll (bs ++ cs) = (s.appendAll bs).appendAll cs := by
  induction bs generalizing s with
  | nil => rfl
  | cons b bs ih => simp [State.appendAll, ih]
/-- Appending writes nothing but the output. -/
theorem State.appendAll_eq (bs : List Byte) : s.appendAll bs = { s with out := (s.appendAll bs).out } := by
  induction bs generalizing s with
  | nil => rfl
  | cons b bs ih => simpa [State.appendAll, State.append] using ih (s.append b)
/-- The maximum backward distance never decreases while output is appended (43_command_loop.md R189). -/
theorem State.maxDist_append (b : Byte) : s.maxDist ≤ (s.append b).maxDist := by
  simp only [State.maxDist, State.maxBackward, State.windowSize, State.append_wbits, State.append_pos]; omega

end Sys2Proof.Machine
end

