-- ==== Sys2Proof/Laws/Memory.lean ====
section
/-! SUPPORT. The laws of a memory space: every operation keeps the canonical form, a byte appended is read back and leaves every
other address alone, and a space in canonical form is its byte sequence. -/

namespace Sys2Proof.Machine

/-! ### The canonical form -/

theorem Memory.wf_iff (m : Memory) : m.wf = true ↔ m.map Prod.fst = List.range m.length := by
  simp [Memory.wf]

@[simp] theorem Memory.wf_nil : Memory.wf [] = true := rfl

/-- Appending a byte keeps the canonical form. -/
theorem Memory.wf_push {m : Memory} (h : m.wf = true) (b : Byte) : (m.push b).wf = true := by
  rw [Memory.wf_iff] at h ⊢
  simp [Memory.push, Memory.size, h, List.range_succ]

theorem Memory.cellsFrom_keys (a : Nat) (bs : List Byte) :
    (Memory.cellsFrom a bs).map Prod.fst = (List.range bs.length).map (a + ·) := by
  induction bs generalizing a with
  | nil => rfl
  | cons b bs ih =>
    simp only [Memory.cellsFrom, List.map_cons, ih, List.length_cons, List.range_succ_eq_map, List.map_map, Nat.add_zero]
    congr 1
    apply List.map_congr_left
    intro x _
    simp only [Function.comp_apply]
    omega

@[simp] theorem Memory.length_cellsFrom (a : Nat) (bs : List Byte) : (Memory.cellsFrom a bs).length = bs.length := by
  induction bs generalizing a with
  | nil => rfl
  | cons b bs ih => simp [Memory.cellsFrom, ih]

/-- A space built from a byte sequence is in canonical form. -/
@[simp] theorem Memory.wf_ofBytes (bs : List Byte) : (Memory.ofBytes bs).wf = true := by
  rw [Memory.wf_iff, Memory.ofBytes, Memory.cellsFrom_keys, Memory.length_cellsFrom]
  simp

/-- Appending bytes keeps the canonical form of the output. -/
theorem Memory.wf_appendAll {s : State} (h : s.out.wf = true) (bs : List Byte) : (s.appendAll bs).out.wf = true := by
  induction bs generalizing s with
  | nil => exact h
  | cons b bs ih => exact ih (s := s.append b) (Memory.wf_push h b)

/-- The spaces of the reset state are in canonical form. -/
theorem Memory.wf_reset : State.reset.inp.wf = true ∧ State.reset.out.wf = true := ⟨rfl, rfl⟩

/-! ### Bytes -/

@[simp] theorem Memory.size_push (m : Memory) (b : Byte) : (m.push b).size = m.size + 1 := by
  simp [Memory.push, Memory.size]

@[simp] theorem Memory.bytes_push (m : Memory) (b : Byte) : (m.push b).bytes = m.bytes ++ [b] := by
  simp [Memory.push, Memory.bytes]

@[simp] theorem Memory.length_bytes (m : Memory) : m.bytes.length = m.size := by
  simp [Memory.bytes, Memory.size]

@[simp] theorem Memory.bytes_ofBytes (bs : List Byte) : (Memory.ofBytes bs).bytes = bs := by
  have h : ∀ a, (Memory.cellsFrom a bs).map Prod.snd = bs := by
    induction bs with
    | nil => intro a; rfl
    | cons b bs ih => intro a; simp [Memory.cellsFrom, ih]
  exact h 0

@[simp] theorem Memory.size_ofBytes (bs : List Byte) : (Memory.ofBytes bs).size = bs.length := by
  simp [Memory.size, Memory.ofBytes]

theorem State.appendAll_bytes (s : State) (bs : List Byte) : (s.appendAll bs).out.bytes = s.out.bytes ++ bs := by
  induction bs generalizing s with
  | nil => simp [State.appendAll]
  | cons b bs ih => simp [State.appendAll, ih]

/-- A space in canonical form is determined by its bytes: equal byte sequences are equal spaces. -/
theorem Memory.ofBytes_bytes {m : Memory} (h : m.wf = true) : Memory.ofBytes m.bytes = m := by
  rw [Memory.wf_iff] at h
  have hk : (Memory.ofBytes m.bytes).map Prod.fst = m.map Prod.fst := by
    rw [Memory.ofBytes, Memory.cellsFrom_keys, h]
    simp [Memory.size]
  have hb : (Memory.ofBytes m.bytes).map Prod.snd = m.map Prod.snd := Memory.bytes_ofBytes m.bytes
  exact List.ext_getElem (by simpa using congrArg List.length hk) fun i h₁ h₂ => by
    have e₁ := congrArg (·[i]?) hk
    have e₂ := congrArg (·[i]?) hb
    simp [List.getElem?_eq_getElem h₁, List.getElem?_eq_getElem h₂] at e₁ e₂
    exact Prod.ext e₁ e₂

/-! ### Reads -/

theorem Memory.lookup_cellsFrom (a : Nat) (bs : List Byte) (k : Nat) :
    (Memory.cellsFrom a bs).lookup k = if a ≤ k then bs[k - a]? else none := by
  induction bs generalizing a with
  | nil => simp [Memory.cellsFrom]
  | cons b bs ih =>
    simp only [Memory.cellsFrom, List.lookup_cons, ih]
    rcases Nat.lt_trichotomy k a with h | h | h
    · have h₁ : (k == a) = false := by simp; omega
      simp [h₁, show ¬a + 1 ≤ k by omega, show ¬a ≤ k by omega]
    · subst h; simp
    · have h₁ : (k == a) = false := by simp; omega
      have h₂ : k - a = (k - (a + 1)) + 1 := by omega
      simp [h₁, show a + 1 ≤ k by omega, show a ≤ k by omega, h₂]

/-- A read of a space in canonical form is the byte of its sequence at that index. -/
theorem Memory.read_eq {m : Memory} (h : m.wf = true) (a : Nat) : m.read a = m.bytes[a]? := by
  rw [← Memory.ofBytes_bytes h]
  unfold Memory.read Memory.ofBytes
  rw [Memory.lookup_cellsFrom]
  simp only [Nat.zero_le, if_true, Nat.sub_zero, ← Memory.ofBytes.eq_1, Memory.bytes_ofBytes]
  cases m.bytes[a]? <;> rfl

/-- An address outside the space reads as nothing. -/
theorem Memory.read_none {m : Memory} (h : m.wf = true) {a : Nat} (ha : m.size ≤ a) : m.read a = none := by
  rw [Memory.read_eq h]; simpa using ha

/-- An address inside the space reads as a byte. -/
theorem Memory.read_some {m : Memory} (h : m.wf = true) {a : Nat} (ha : a < m.size) : ∃ b, m.read a = some b := by
  rw [Memory.read_eq h]
  exact ⟨m.bytes[a]'(by simpa using ha), by simp⟩

/-- The byte appended is read back at the old size. -/
theorem Memory.read_push_self {m : Memory} (h : m.wf = true) (b : Byte) : (m.push b).read m.size = some b := by
  rw [Memory.read_eq (Memory.wf_push h b), Memory.bytes_push]
  simp [← Memory.length_bytes]

/-- Appending a byte leaves every other address as it was, whatever the form of the space. -/
theorem Memory.read_push_of_ne (m : Memory) (b : Byte) {a : Nat} (ha : a ≠ m.size) : (m.push b).read a = m.read a := by
  have h : ∀ l : Memory, (l ++ [(m.size, b)]).lookup a = l.lookup a := by
    intro l
    induction l with
    | nil => have : (a == m.size) = false := by simpa using ha
             simp [List.lookup_cons, this]
    | cons c l ih =>
      obtain ⟨k, v⟩ := c
      simp only [List.cons_append, List.lookup_cons, ih]
  simp [Memory.read, Memory.push, h]

/-- Appending bytes leaves every address below the old size as it was. -/
theorem State.read_appendAll_of_lt (s : State) (bs : List Byte) {a : Nat} (ha : a < s.pos) :
    (s.appendAll bs).out.read a = s.out.read a := by
  induction bs generalizing s with
  | nil => rfl
  | cons b bs ih =>
    rw [State.appendAll, ih (s.append b) (by simp; omega)]
    exact Memory.read_push_of_ne s.out b (by simp only [State.pos] at ha; omega)

/-! ### Bits -/

theorem Memory.field_lt (m : Memory) (p n : Nat) : m.field p n < 2 ^ n := by
  induction n generalizing p with
  | zero => simp [Memory.field]
  | succ n ih =>
    have h := ih (p + 1)
    simp only [Memory.field, Nat.pow_succ]
    cases m.bit p <;> simp <;> omega

@[simp] theorem Memory.field_zero (m : Memory) (p : Nat) : m.field p 0 = 0 := rfl

/-- A field is two fields: its low bits come first. -/
theorem Memory.field_add (m : Memory) (p a b : Nat) : m.field p (a + b) = m.field p a + 2 ^ a * m.field (p + a) b := by
  induction a generalizing p with
  | zero => simp
  | succ a ih =>
    rw [show a + 1 + b = (a + b) + 1 by omega]
    simp only [Memory.field, ih (p + 1), show p + 1 + a = p + (a + 1) by omega, Nat.pow_succ]
    ring

/-- Bit `j` of a field is the stream bit `j` places on. -/
theorem Memory.testBit_field (m : Memory) (p n j : Nat) (h : j < n) : (m.field p n).testBit j = m.bit (p + j) := by
  induction n generalizing p j with
  | zero => omega
  | succ n ih =>
    cases j with
    | zero => cases hb : m.bit p <;> simp [Memory.field, hb, Nat.testBit_zero]
    | succ j =>
      have h' := ih (p + 1) j (by omega)
      rw [show p + (j + 1) = p + 1 + j by omega, ← h', Nat.testBit_succ]
      congr 1
      simp only [Memory.field]
      cases m.bit p
      · simp
      · simp only [Bool.toNat_true]; omega

@[simp] theorem Memory.length_bits (m : Memory) (p n : Nat) : (m.bits p n).length = n := by
  induction n generalizing p with
  | zero => rfl
  | succ n ih => simp [Memory.bits, ih]

theorem Memory.bits_add (m : Memory) (p a b : Nat) : m.bits p (a + b) = m.bits p a ++ m.bits (p + a) b := by
  induction a generalizing p with
  | zero => simp [Memory.bits]
  | succ a ih =>
    rw [show a + 1 + b = (a + b) + 1 by omega]
    simp [Memory.bits, ih (p + 1), show p + 1 + a = p + (a + 1) by omega]

/-- The value of a run of bits is the field that stands there. -/
@[simp] theorem Memory.valueOf_bits (m : Memory) (p n : Nat) : valueOf (m.bits p n) = m.field p n := by
  induction n generalizing p with
  | zero => rfl
  | succ n ih => simp [Memory.bits, valueOf, Memory.field, ih]

theorem Memory.take_bits (m : Memory) (p : Nat) {a n : Nat} (h : a ≤ n) : (m.bits p n).take a = m.bits p a := by
  obtain ⟨b, rfl⟩ := Nat.le.dest h
  rw [Memory.bits_add, List.take_left' (by simp)]

theorem Memory.drop_bits (m : Memory) (p : Nat) {a n : Nat} (h : a ≤ n) :
    (m.bits p n).drop a = m.bits (p + a) (n - a) := by
  obtain ⟨b, rfl⟩ := Nat.le.dest h
  rw [Memory.bits_add, List.drop_left' (by simp)]
  congr 1; omega

end Sys2Proof.Machine
end

