-- ==== Sys2Proof/Laws/Ops.lean ====
section
/-! SUPPORT. What each shared operation can do, said once: if it completes, then how; and when it stops, with what. Later proofs
cite these and do not unfold the operations. -/

namespace Sys2Proof.Machine

/-! ### Computations that stop -/

/-- A computation in two parts completes exactly when both do. -/
theorem Res.bind_eq_ok {α β : Type} {x : Res α} {f : α → Res β} {b : β} :
    (x >>= f) = .ok b ↔ ∃ a, x = .ok a ∧ f a = .ok b := by
  cases x with
  | error e => simp [bind, Except.bind]
  | ok a => simp [bind, Except.bind]

/-- A computation in two parts stops when the first part does, or else when the second does. -/
theorem Res.bind_eq_error {α β : Type} {x : Res α} {f : α → Res β} {e : Stop} :
    (x >>= f) = .error e ↔ x = .error e ∨ ∃ a, x = .ok a ∧ f a = .error e := by
  cases x with
  | error e' => simp [bind, Except.bind]
  | ok a => simp [bind, Except.bind]

@[simp] theorem Res.ok_bind {α β : Type} (a : α) (f : α → Res β) : ((.ok a : Res α) >>= f) = f a := rfl
@[simp] theorem Res.error_bind {α β : Type} (e : Stop) (f : α → Res β) : ((.error e : Res α) >>= f) = .error e := rfl
@[simp] theorem Res.pure_eq {α : Type} (a : α) : (pure a : Res α) = .ok a := rfl

/-! ### Answers -/

@[simp] theorem deliver_ok (s t : State) : deliver s (.ok t) = .next t := rfl
@[simp] theorem deliver_raise (s : State) (k : ErrorKind) (m : String) (p : Nat) :
    deliver s (.error (.raise k m p)) = .next (takeError k m { s with bitpos := p }) := rfl
@[simp] theorem deliver_fault (s : State) (f : Fault) : deliver s (.error (.fault f)) = .fault f := rfl
@[simp] theorem deliver_refuse (s : State) (r : Refusal) : deliver s (.error (.refuse r)) = .refused r := rfl

/-- A next state comes from an operation that completed, or from an error that was taken. -/
theorem deliver_eq_next {s t : State} {r : Res State} (h : deliver s r = .next t) :
    r = .ok t ∨ ∃ k m p, r = .error (.raise k m p) ∧ t = takeError k m { s with bitpos := p } := by
  match r, h with
  | .ok _, h => exact .inl (by injection h with h; rw [h])
  | .error (.raise k m p), h => exact .inr ⟨k, m, p, rfl, by injection h with h; exact h.symm⟩

theorem during_of_mem {states : List DecState} {s : State} (h : s.state ∈ states) (r : Res State) :
    during states s r = deliver s r := if_pos h

theorem during_of_not_mem {states : List DecState} {s : State} (h : s.state ∉ states) (r : Res State) :
    during states s r = .fault .notEnabled := if_neg h

theorem duringPhase_of {p : CmdPhase} {s : State} (h : s.state = .commandLoop) (hp : s.cmdPhase = p) (r : Res State) :
    duringPhase p s r = deliver s r := if_pos ⟨h, hp⟩

/-- An instruction that runs was enabled. -/
theorem during_eq_next {states : List DecState} {s t : State} {r : Res State} (h : during states s r = .next t) :
    s.state ∈ states ∧ deliver s r = .next t := by
  unfold during at h
  split at h
  · exact ⟨‹_›, h⟩
  · cases h

theorem duringPhase_eq_next {p : CmdPhase} {s t : State} {r : Res State} (h : duringPhase p s r = .next t) :
    s.state = .commandLoop ∧ s.cmdPhase = p ∧ deliver s r = .next t := by
  unfold duringPhase at h
  split at h
  · rename_i hp; exact ⟨hp.1, hp.2, h⟩
  · cases h

/-! ### Loops -/

/-- A property that the body keeps holds after any number of turns. -/
theorem iterate_induction {P : State → Prop} {f : State → Res State} (hf : ∀ s t, P s → f s = .ok t → P t)
    {n : Nat} {s t : State} (hs : P s) (h : iterate n f s = .ok t) : P t := by
  induction n generalizing s with
  | zero => cases h; exact hs
  | succ n ih =>
    obtain ⟨u, hu, h⟩ := Res.bind_eq_ok.mp h
    exact ih (hf s u hs hu) h

/-- A property that the body keeps where the condition holds is kept by the loop. -/
theorem iterateWhile_induction {P : State → Prop} {c : State → Bool} {f : State → Res State}
    (hf : ∀ s t, c s = true → P s → f s = .ok t → P t) {n : Nat} {s t : State} (hs : P s)
    (h : iterateWhile n c f s = .ok t) : P t := by
  induction n generalizing s with
  | zero => cases h; exact hs
  | succ n ih =>
    unfold iterateWhile at h
    split at h
    · rename_i hc
      obtain ⟨u, hu, h⟩ := Res.bind_eq_ok.mp h
      exact ih (hf s u hc hs hu) h
    · cases h; exact hs

/-- The loop ends because its condition fails, or because its bound is used up. -/
theorem iterateWhile_ends {c : State → Bool} {f : State → Res State} {μ : State → Nat}
    (hf : ∀ s t, c s = true → f s = .ok t → μ t < μ s) {n : Nat} {s t : State} (hn : μ s ≤ n) (h₀ : ∀ s, μ s = 0 → c s = false)
    (h : iterateWhile n c f s = .ok t) : c t = false := by
  induction n generalizing s with
  | zero => cases h; exact h₀ _ (by omega)
  | succ n ih =>
    unfold iterateWhile at h
    split at h
    · rename_i hc
      obtain ⟨u, hu, h⟩ := Res.bind_eq_ok.mp h
      exact ih (by have := hf s u hc hu; omega) h
    · rename_i hc
      cases h; simpa using hc

/-! ### The bit reader -/

theorem skip_eq {n : Nat} {s : State} (h : s.bitpos + n ≤ s.inputBits) : skip n s = .ok (s.advance n) := if_pos h

theorem skip_short {n : Nat} {s : State} (h : s.inputBits < s.bitpos + n) :
    skip n s = raise .invalidArguments "read past end of input" s := if_neg (by omega)

theorem skip_ok {n : Nat} {s t : State} (h : skip n s = .ok t) : s.bitpos + n ≤ s.inputBits ∧ t = s.advance n := by
  unfold skip at h
  split at h
  · exact ⟨‹_›, by injection h with h; exact h.symm⟩
  · cases h

theorem readBits_eq {n : Nat} {s : State} (h : s.bitpos + n ≤ s.inputBits) :
    readBits n s = .ok (s.inp.field s.bitpos n, s.advance n) := by
  simp [readBits, skip_eq h]

theorem readBits_ok {n v : Nat} {s t : State} (h : readBits n s = .ok (v, t)) :
    s.bitpos + n ≤ s.inputBits ∧ v = s.inp.field s.bitpos n ∧ t = s.advance n := by
  obtain ⟨u, hu, h⟩ := Res.bind_eq_ok.mp h
  obtain ⟨hn, rfl⟩ := skip_ok hu
  cases h
  exact ⟨hn, rfl, rfl⟩

theorem padding_ok {k : PadKind} {n v : Nat} {s t : State} (h : padding k n v s = .ok t) :
    s.bitpos + n ≤ s.inputBits ∧ v = 0 ∧ t = s.advance n := by
  obtain ⟨u, hu, h⟩ := Res.bind_eq_ok.mp h
  obtain ⟨hn, rfl⟩ := skip_ok hu
  split at h
  · cases h; exact ⟨hn, ‹_›, rfl⟩
  · cases h

/-- The padding ends on a byte boundary, the next one. -/
theorem State.padBits_spec (s : State) : s.bitpos + s.padBits = 8 * ((s.bitpos + 7) / 8) ∧ s.padBits < 8 := by
  unfold State.padBits; omega

/-- Padding never reaches past the input from inside it. -/
theorem State.padBits_fits {s : State} (h : s.bitpos ≤ s.inputBits) : s.bitpos + s.padBits ≤ s.inputBits := by
  have := s.padBits_spec
  unfold State.inputBits at *
  omega

theorem alignToByte_ok {k : PadKind} {s t : State} (h : alignToByte k s = .ok t) :
    s.bitpos + s.padBits ≤ s.inputBits ∧ s.inp.field s.bitpos s.padBits = 0 ∧ t = s.advance s.padBits := padding_ok h

theorem finalPadding_ok {s t : State} (h : finalPadding s = .ok t) :
    s.bitpos + s.padBits ≤ s.inputBits ∧ s.inp.field s.bitpos s.padBits = 0 ∧ t = s.advance s.padBits ∧
    (s.params.trailing = .reject → s.inputBits ≤ s.bitpos + s.padBits) := by
  obtain ⟨u, hu, h⟩ := Res.bind_eq_ok.mp h
  obtain ⟨hn, hv, rfl⟩ := alignToByte_ok hu
  split at h
  · cases h
  · rename_i hc
    cases h
    refine ⟨hn, hv, rfl, fun ht => ?_⟩
    simp only [State.advance_params, State.advance_bitpos, State.advance_inputBits, ht, true_and, Nat.not_lt] at hc
    exact hc

theorem skipBytes_ok {m : Nat} {s t : State} (h : skipBytes m s = .ok t) :
    s.bitpos / 8 + m ≤ s.inp.size ∧ t = s.advance (8 * m) := by
  unfold skipBytes at h
  split at h
  · exact ⟨‹_›, by injection h with h; exact h.symm⟩
  · cases h

/-- A slice inside the space exists, and is that part of its bytes. -/
theorem Memory.slice_eq {mem : Memory} (hw : mem.wf = true) {i m : Nat} (h : i + m ≤ mem.size) :
    mem.slice i m = some ((mem.bytes.drop i).take m) := by
  induction m generalizing i with
  | zero => simp [Memory.slice]
  | succ m ih =>
    have hi : i < mem.bytes.length := by simp; omega
    rw [Memory.slice, Memory.read_eq hw, List.getElem?_eq_getElem hi, ih (by omega)]
    rw [List.drop_eq_getElem_cons hi, List.take_succ_cons]
    rfl

theorem readBytes_ok {m : Nat} {s t : State} (h : readBytes m s = .ok t) :
    s.bitpos / 8 + m ≤ s.inp.size ∧
    ∃ bs, s.inp.slice (s.bitpos / 8) m = some bs ∧ t = (s.appendAll bs).advance (8 * m) := by
  unfold readBytes at h
  split at h
  · refine ⟨‹_›, ?_⟩
    split at h
    · exact ⟨_, ‹_›, by injection h with h; exact h.symm⟩
    · cases h
  · cases h

/-! ### Codes -/

/-- A symbol's codeword is consumed where the code in force has one. -/
theorem consume_ok {code : Option PrefixCode} {sym : Nat} {s t : State} (h : consume code sym s = .ok t) :
    ∃ T l c, code = some T ∧ codeword T sym = some (l, c) ∧ s.bitpos + l ≤ s.inputBits ∧ t = s.advance l := by
  unfold consume at h
  split at h
  · cases h
  · split at h
    · cases h
    · obtain ⟨hl, rfl⟩ := skip_ok h
      exact ⟨_, _, _, rfl, ‹_›, hl, rfl⟩

theorem consume_eq {T : PrefixCode} {sym l c : Nat} {s : State} (hc : codeword T sym = some (l, c))
    (h : s.bitpos + l ≤ s.inputBits) : consume (some T) sym s = .ok (s.advance l) := by
  simp [consume, hc, skip_eq h]

/-! ### Allocation, copies, the ends of meta-blocks and commands -/

theorem allocate_ok {site : AllocSite} {k : ErrorKind} {s t : State} (h : allocate site k s = .ok t) :
    site ∉ s.params.allocFail ∧ t = s := by
  unfold allocate at h
  split at h
  · cases h
  · exact ⟨‹_›, by injection h with h; exact h.symm⟩

theorem allocate_eq {site : AllocSite} {s : State} (k : ErrorKind) (h : site ∉ s.params.allocFail) :
    allocate site k s = .ok s := if_neg h

/-- A backward copy only appends. -/
theorem copyBackward_ok {d n : Nat} {s t : State} (h : copyBackward d n s = .ok t) :
    ∃ bs, bs.length = n ∧ t = s.appendAll bs := by
  induction n generalizing s with
  | zero => exact ⟨[], rfl, by cases h; rfl⟩
  | succ n ih =>
    unfold copyBackward at h
    split at h
    · rename_i b _
      obtain ⟨bs, hl, rfl⟩ := ih h
      exact ⟨b :: bs, by simp [hl], rfl⟩
    · cases h

/-- A backward copy within the bound always completes. -/
theorem copyBackward_completes {d n : Nat} {s : State} (hw : s.out.wf = true) (h1 : 1 ≤ d) (hd : d ≤ s.maxDist) :
    ∃ t, copyBackward d n s = .ok t := by
  induction n generalizing s with
  | zero => exact ⟨s, rfl⟩
  | succ n ih =>
    have hlt : s.pos - d < s.out.size := by
      have : s.maxDist ≤ s.pos := Nat.min_le_left _ _
      simp only [State.pos] at *; omega
    obtain ⟨b, hb⟩ := Memory.read_some hw hlt
    simp only [copyBackward, State.outRead, h1, hd, and_self, if_true, hb]
    exact ih (Memory.wf_push hw b) (Nat.le_trans hd (s.maxDist_append b))

theorem endOfMetaBlock_ok {s t : State} (h : endOfMetaBlock s = .ok t) :
    (s.isLast = false ∧ t = s.goto .metaBlockHeader) ∨
    (s.isLast = true ∧ ∃ u, finalPadding s = .ok u ∧ t = u.goto .done) := by
  unfold endOfMetaBlock at h
  split at h
  · obtain ⟨u, hu, h⟩ := Res.bind_eq_ok.mp h
    cases h
    exact .inr ⟨‹_›, u, hu, rfl⟩
  · cases h
    exact .inl ⟨by simpa using ‹¬s.isLast = true›, rfl⟩

theorem postInsert_ok {s t : State} (h : postInsert s = .ok t) :
    (s.remaining = 0 ∧ endOfMetaBlock s = .ok t) ∨ (s.remaining ≠ 0 ∧ t = { s with cmdPhase := .distance }) := by
  unfold postInsert at h
  split at h
  · exact .inl ⟨‹_›, h⟩
  · exact .inr ⟨‹_›, by injection h with h; exact h.symm⟩

theorem endOfCommand_ok {s t : State} (h : endOfCommand s = .ok t) :
    (s.remaining = 0 ∧ endOfMetaBlock s = .ok t) ∨ (s.remaining ≠ 0 ∧ t = { s with cmdPhase := .cmdBegin }) := by
  unfold endOfCommand at h
  split at h
  · exact .inl ⟨‹_›, h⟩
  · exact .inr ⟨‹_›, by injection h with h; exact h.symm⟩

end Sys2Proof.Machine
end

