-- ==== Sys2Proof/Laws/Elements.lean ====
section
/-! SUPPORT. What reading an element and running a step come down to, said once. -/

namespace Sys2Proof.Machine

/-- Decoding never looks past the end of the input (40_bitreader.md R97). -/
theorem State.window_length (s : State) : s.window.length = min longestElement (s.inputBits - s.bitpos) := by
  simp [State.window]

/-- Moving the cursor moves the window; nothing else of the state matters to it. -/
theorem State.window_eq {s t : State} (hi : t.inp = s.inp) (hp : t.bitpos = s.bitpos) : t.window = s.window := by
  simp [State.window, State.inputBits, hi, hp]

/-- An element that completes was decoded at the cursor, and its row completed. -/
theorem runElement_ok {c : Ctx} {s t : State} (h : runElement c s = .ok t) :
    ∃ i n, decode c s.window = .ok (i, n) ∧ elem i s = .ok t := by
  unfold runElement at h
  split at h
  · exact ⟨_, _, ‹_›, h⟩
  all_goals cases h

theorem runElement_eq {c : Ctx} {s : State} {i : Instr} {n : Nat} (h : decode c s.window = .ok (i, n)) :
    runElement c s = elem i s := by
  simp [runElement, h]

theorem runElement_short {c : Ctx} {s : State} {used : Nat} (h : decode c s.window = .error (.endOfInput used)) :
    runElement c s = .error (.raise .invalidArguments "read past end of input" (s.bitpos + used)) := by
  simp [runElement, h]

/-- A symbol that completes was decoded with the code in force. -/
theorem runSymbol_ok {a : Alphabet} {code : Option PrefixCode} {s t : State} (h : runSymbol a code s = .ok t) :
    ∃ T i n, code = some T ∧ decode (.symbol a T) s.window = .ok (i, n) ∧ elem i s = .ok t := by
  unfold runSymbol at h
  split at h
  · obtain ⟨i, n, hd, he⟩ := runElement_ok h
    exact ⟨_, i, n, rfl, hd, he⟩
  · cases h

theorem fetch_eq {s : State} {i : Instr} {n : Nat} (h : decode s.place s.window = .ok (i, n)) : s.fetch = .ok i := by
  simp [State.fetch, h]

/-- A step is the operation that stands at the machine's place; where none is enabled it changes nothing. -/
theorem step_cases (s : State) :
    (∃ i, s.fetch = .ok i ∧ step s = exec i s) ∨ ((∃ e, s.fetch = .error e) ∧ step s = .next s) := by
  unfold step
  cases h : s.fetch with
  | ok i => exact .inl ⟨i, rfl, rfl⟩
  | error e => exact .inr ⟨⟨e, rfl⟩, rfl⟩

/-- Only the ten operations are fetched. -/
theorem fetch_operation {s : State} {i : Instr} (h : s.fetch = .ok i) :
    operationRow s.state s.cmdPhase s.beyond = some i := by
  unfold State.fetch State.place at h
  simp only [decode] at h
  cases hr : operationRow s.state s.cmdPhase s.beyond with
  | none => rw [hr] at h; cases h
  | some j => rw [hr] at h; cases h; rfl

/-! ### The lengths that code-length symbols write -/

theorem Lengths.write_literal (k : Lengths) {sym : Nat} (x : Nat) (h : sym < 16) :
    k.write sym x = { k with lens := k.lens ++ [sym], prev := if sym = 0 then k.prev else sym, rep := 0 } := if_pos h

/-- A code-length symbol only appends. -/
theorem Lengths.write_appends (k : Lengths) (sym x : Nat) : ∃ ls, (k.write sym x).lens = k.lens ++ ls := by
  unfold Lengths.write
  split <;> exact ⟨_, rfl⟩

@[simp] theorem Lengths.ofSymbols_nil : Lengths.ofSymbols [] = .start := rfl

/-- The last symbol of a list is written after the others. -/
@[simp] theorem Lengths.ofSymbols_concat (items : List (Nat × Nat)) (p : Nat × Nat) :
    Lengths.ofSymbols (items ++ [p]) = (Lengths.ofSymbols items).write p.1 p.2 := by
  simp [Lengths.ofSymbols]

theorem kraft_append (T U : PrefixCode) : kraft (T ++ U) = kraft T + kraft U := by
  simp [kraft]

theorem share32_append (vs ws : List Nat) : share32 (vs ++ ws) = share32 vs + share32 ws := by
  simp [share32]

end Sys2Proof.Machine
end

