-- ==== Sys2Proof/Laws/Ends.lean ====
section
/-! SUPPORT. The ends of a meta-block and of the parts of a command, where the stream may end there: the words of Safety.lean say
what the operations answer. -/

namespace Sys2Proof.Machine

theorem padding_zero {k : PadKind} {n : Nat} {s : State} (h : s.bitpos + n ≤ s.inputBits) :
    padding k n 0 s = .ok (s.advance n) := by
  simp [padding, skip_eq h]

theorem padding_nonzero {k : PadKind} {n v : Nat} {s : State} (h : s.bitpos + n ≤ s.inputBits) (hv : v ≠ 0) :
    padding k n v s = .error (.raise (PadKind.error k) "non-zero padding" (s.bitpos + n)) := by
  simp [padding, skip_eq h, hv, raise]

/-- The final padding passes where the stream ends cleanly. -/
theorem finalPadding_eq {s : State} (h : s.bitpos + s.padBits ≤ s.inputBits)
    (hv : s.inp.field s.bitpos s.padBits = 0)
    (ht : s.params.trailing = .reject → s.bitpos + s.padBits = s.inputBits) :
    finalPadding s = .ok (s.advance s.padBits) := by
  have hn : ¬(s.params.trailing = .reject ∧ s.bitpos + s.padBits < s.inputBits) := fun ⟨a, b⟩ => by
    have := ht a; omega
  simp only [finalPadding, alignToByte, hv, padding_zero h, Res.ok_bind, State.advance_params, State.advance_bitpos,
    State.advance_inputBits]
  exact if_neg hn

theorem endOfMetaBlock_eq {s : State} (h : s.endsCleanly) : endOfMetaBlock s = .ok s.closed := by
  unfold endOfMetaBlock State.closed
  cases hl : s.isLast with
  | false => rfl
  | true =>
    obtain ⟨h₁, h₂, h₃⟩ := h hl
    simp only [if_true, finalPadding_eq h₁ h₂ h₃, Res.ok_bind, Res.pure_eq]

theorem postInsert_eq {s : State} (h : s.canResume) : postInsert s = .ok (s.resume .distance) := by
  unfold postInsert State.resume
  split
  · exact endOfMetaBlock_eq (h ‹_›)
  · rfl

theorem endOfCommand_eq {s : State} (h : s.canResume) : endOfCommand s = .ok (s.resume .cmdBegin) := by
  unfold endOfCommand State.resume
  split
  · exact endOfMetaBlock_eq (h ‹_›)
  · rfl

/-- A symbol that the code in force spells is consumed. -/
theorem consume_spells {s : State} {code : Option PrefixCode} {sym l : Nat} (h : s.spells code sym l) :
    consume code sym s = .ok (s.advance l) := by
  obtain ⟨hl, T, c, rfl, hc⟩ := h
  exact consume_eq hc hl

end Sys2Proof.Machine
end

