-- ==== Sys2Proof/Laws/PerInstr.lean ====
section
/-! SUPPORT. What is said of every instruction, one lemma for each row of the opcode table: the operand of a well-formed
instruction fits the bits that its row gives it, so that the encoder drops none. -/

namespace Sys2Proof.Laws.RowFits

/-- The operand of a row fits: a field's in its width, padding in its bits, a symbol in the largest alphabet. -/
def fits (r : Row) : Bool :=
  match r with
  | .operation => true
  | .field _ _ w x => decide (x < 2 ^ w)
  | .padding _ n v => decide (n < 8) && decide (v < 2 ^ n)
  | .symbol v => decide (v < 704)
  | .entry _ => true

/-- A well-formed instruction's operand fits its row (30_encoding.md R94). -/
def Statement (i : Instr) : Prop := i.wellFormed = true → fits i.row = true

theorem streamHeader : Statement .streamHeader := fun _ => rfl
theorem mhdr : Statement .mhdr := fun _ => rfl
theorem metadata : Statement .metadata := fun _ => rfl
theorem uncompressed : Statement .uncompressed := fun _ => rfl
theorem setup : Statement .setup := fun _ => rfl
theorem cmd : Statement .cmd := fun _ => rfl
theorem lit : Statement .lit := fun _ => rfl
theorem dist : Statement .dist := fun _ => rfl
theorem copy : Statement .copy := fun _ => rfl
theorem dict : Statement .dict := fun _ => rfl
theorem wbits16 : Statement .wbits16 := fun _ => rfl
theorem wbits18 : Statement .wbits18 := fun _ => rfl
theorem wbits19 : Statement .wbits19 := fun _ => rfl
theorem wbits20 : Statement .wbits20 := fun _ => rfl
theorem wbits21 : Statement .wbits21 := fun _ => rfl
theorem wbits22 : Statement .wbits22 := fun _ => rfl
theorem wbits23 : Statement .wbits23 := fun _ => rfl
theorem wbits24 : Statement .wbits24 := fun _ => rfl
theorem wbits17 : Statement .wbits17 := fun _ => rfl
theorem wbitsLarge : Statement .wbitsLarge := fun _ => rfl
theorem wbits10 : Statement .wbits10 := fun _ => rfl
theorem wbits11 : Statement .wbits11 := fun _ => rfl
theorem wbits12 : Statement .wbits12 := fun _ => rfl
theorem wbits13 : Statement .wbits13 := fun _ => rfl
theorem wbits14 : Statement .wbits14 := fun _ => rfl
theorem wbits15 : Statement .wbits15 := fun _ => rfl
theorem mhdrLast1Empty1 : Statement .mhdrLast1Empty1 := fun _ => rfl
theorem mhdrLast1Empty0 : Statement .mhdrLast1Empty0 := fun _ => rfl
theorem mhdrLast0 : Statement .mhdrLast0 := fun _ => rfl
theorem mnibbles0 : Statement .mnibbles0 := fun _ => rfl
theorem mnibbles1 : Statement .mnibbles1 := fun _ => rfl
theorem mnibbles2 : Statement .mnibbles2 := fun _ => rfl
theorem mnibbles3 : Statement .mnibbles3 := fun _ => rfl
theorem mlenNibble (x : Nat) : Statement (.mlenNibble x) := fun h => by
  simp [Instr.wellFormed] at h; simp [Instr.row, fits]; omega
theorem isuncompressed0 : Statement .isuncompressed0 := fun _ => rfl
theorem isuncompressed1 : Statement .isuncompressed1 := fun _ => rfl
theorem metadataReserved0 : Statement .metadataReserved0 := fun _ => rfl
theorem metadataReserved1 : Statement .metadataReserved1 := fun _ => rfl
theorem mskipbytes0 : Statement .mskipbytes0 := fun _ => rfl
theorem mskipbytes1 : Statement .mskipbytes1 := fun _ => rfl
theorem mskipbytes2 : Statement .mskipbytes2 := fun _ => rfl
theorem mskipbytes3 : Statement .mskipbytes3 := fun _ => rfl
theorem mskiplenByte (b : Nat) : Statement (.mskiplenByte b) := fun h => by
  simp [Instr.wellFormed] at h; simp [Instr.row, fits]; omega
theorem pad (k : PadKind) (n : Nat) (v : Nat) : Statement (.pad k n v) := fun h => by
  simp [Instr.wellFormed] at h; simp [Instr.row, fits, h]
theorem varlen0 : Statement .varlen0 := fun _ => rfl
theorem varlen1 : Statement .varlen1 := fun _ => rfl
theorem varlenN1 (x : Nat) : Statement (.varlenN1 x) := fun h => by
  simp [Instr.wellFormed] at h; simp [Instr.row, fits]; omega
theorem varlenN2 (x : Nat) : Statement (.varlenN2 x) := fun h => by
  simp [Instr.wellFormed] at h; simp [Instr.row, fits]; omega
theorem varlenN3 (x : Nat) : Statement (.varlenN3 x) := fun h => by
  simp [Instr.wellFormed] at h; simp [Instr.row, fits]; omega
theorem varlenN4 (x : Nat) : Statement (.varlenN4 x) := fun h => by
  simp [Instr.wellFormed] at h; simp [Instr.row, fits]; omega
theorem varlenN5 (x : Nat) : Statement (.varlenN5 x) := fun h => by
  simp [Instr.wellFormed] at h; simp [Instr.row, fits]; omega
theorem varlenN6 (x : Nat) : Statement (.varlenN6 x) := fun h => by
  simp [Instr.wellFormed] at h; simp [Instr.row, fits]; omega
theorem varlenN7 (x : Nat) : Statement (.varlenN7 x) := fun h => by
  simp [Instr.wellFormed] at h; simp [Instr.row, fits]; omega
theorem npostfix0 : Statement .npostfix0 := fun _ => rfl
theorem npostfix1 : Statement .npostfix1 := fun _ => rfl
theorem npostfix2 : Statement .npostfix2 := fun _ => rfl
theorem npostfix3 : Statement .npostfix3 := fun _ => rfl
theorem ndirect (x : Nat) : Statement (.ndirect x) := fun h => by
  simp [Instr.wellFormed] at h; simp [Instr.row, fits]; omega
theorem cmodeLsb6 : Statement .cmodeLsb6 := fun _ => rfl
theorem cmodeMsb6 : Statement .cmodeMsb6 := fun _ => rfl
theorem cmodeUtf8 : Statement .cmodeUtf8 := fun _ => rfl
theorem cmodeSigned : Statement .cmodeSigned := fun _ => rfl
theorem cmapRlemax0 : Statement .cmapRlemax0 := fun _ => rfl
theorem cmapRlemax (x : Nat) : Statement (.cmapRlemax x) := fun h => by
  simp [Instr.wellFormed] at h; simp [Instr.row, fits]; omega
theorem cmapImtf0 : Statement .cmapImtf0 := fun _ => rfl
theorem cmapImtf1 : Statement .cmapImtf1 := fun _ => rfl
theorem hskip0 : Statement .hskip0 := fun _ => rfl
theorem hskip1 : Statement .hskip1 := fun _ => rfl
theorem hskip2 : Statement .hskip2 := fun _ => rfl
theorem hskip3 : Statement .hskip3 := fun _ => rfl
theorem nsym1 : Statement .nsym1 := fun _ => rfl
theorem nsym2 : Statement .nsym2 := fun _ => rfl
theorem nsym3 : Statement .nsym3 := fun _ => rfl
theorem nsym4 : Statement .nsym4 := fun _ => rfl
theorem treeselect0 : Statement .treeselect0 := fun _ => rfl
theorem treeselect1 : Statement .treeselect1 := fun _ => rfl
theorem clcl0 : Statement .clcl0 := fun _ => rfl
theorem clcl3 : Statement .clcl3 := fun _ => rfl
theorem clcl4 : Statement .clcl4 := fun _ => rfl
theorem clcl2 : Statement .clcl2 := fun _ => rfl
theorem clcl1 : Statement .clcl1 := fun _ => rfl
theorem clcl5 : Statement .clcl5 := fun _ => rfl
theorem clsym0 : Statement .clsym0 := fun _ => rfl
theorem clsym1 : Statement .clsym1 := fun _ => rfl
theorem clsym2 : Statement .clsym2 := fun _ => rfl
theorem clsym3 : Statement .clsym3 := fun _ => rfl
theorem clsym4 : Statement .clsym4 := fun _ => rfl
theorem clsym5 : Statement .clsym5 := fun _ => rfl
theorem clsym6 : Statement .clsym6 := fun _ => rfl
theorem clsym7 : Statement .clsym7 := fun _ => rfl
theorem clsym8 : Statement .clsym8 := fun _ => rfl
theorem clsym9 : Statement .clsym9 := fun _ => rfl
theorem clsym10 : Statement .clsym10 := fun _ => rfl
theorem clsym11 : Statement .clsym11 := fun _ => rfl
theorem clsym12 : Statement .clsym12 := fun _ => rfl
theorem clsym13 : Statement .clsym13 := fun _ => rfl
theorem clsym14 : Statement .clsym14 := fun _ => rfl
theorem clsym15 : Statement .clsym15 := fun _ => rfl
theorem clsym16 : Statement .clsym16 := fun _ => rfl
theorem clsym17 : Statement .clsym17 := fun _ => rfl
theorem btype0 (c : Category) : Statement (.btype0 c) := fun _ => rfl
theorem btype1 (c : Category) : Statement (.btype1 c) := fun _ => rfl
theorem btypeT (c : Category) (t : Nat) : Statement (.btypeT c t) := fun h => by
  simp [Instr.wellFormed] at h; simp [Instr.row, fits]; omega
theorem blen0 (c : Category) : Statement (.blen0 c) := fun _ => rfl
theorem blen1 (c : Category) : Statement (.blen1 c) := fun _ => rfl
theorem blen2 (c : Category) : Statement (.blen2 c) := fun _ => rfl
theorem blen3 (c : Category) : Statement (.blen3 c) := fun _ => rfl
theorem blen4 (c : Category) : Statement (.blen4 c) := fun _ => rfl
theorem blen5 (c : Category) : Statement (.blen5 c) := fun _ => rfl
theorem blen6 (c : Category) : Statement (.blen6 c) := fun _ => rfl
theorem blen7 (c : Category) : Statement (.blen7 c) := fun _ => rfl
theorem blen8 (c : Category) : Statement (.blen8 c) := fun _ => rfl
theorem blen9 (c : Category) : Statement (.blen9 c) := fun _ => rfl
theorem blen10 (c : Category) : Statement (.blen10 c) := fun _ => rfl
theorem blen11 (c : Category) : Statement (.blen11 c) := fun _ => rfl
theorem blen12 (c : Category) : Statement (.blen12 c) := fun _ => rfl
theorem blen13 (c : Category) : Statement (.blen13 c) := fun _ => rfl
theorem blen14 (c : Category) : Statement (.blen14 c) := fun _ => rfl
theorem blen15 (c : Category) : Statement (.blen15 c) := fun _ => rfl
theorem blen16 (c : Category) : Statement (.blen16 c) := fun _ => rfl
theorem blen17 (c : Category) : Statement (.blen17 c) := fun _ => rfl
theorem blen18 (c : Category) : Statement (.blen18 c) := fun _ => rfl
theorem blen19 (c : Category) : Statement (.blen19 c) := fun _ => rfl
theorem blen20 (c : Category) : Statement (.blen20 c) := fun _ => rfl
theorem blen21 (c : Category) : Statement (.blen21 c) := fun _ => rfl
theorem blen22 (c : Category) : Statement (.blen22 c) := fun _ => rfl
theorem blen23 (c : Category) : Statement (.blen23 c) := fun _ => rfl
theorem blen24 (c : Category) : Statement (.blen24 c) := fun _ => rfl
theorem blen25 (c : Category) : Statement (.blen25 c) := fun _ => rfl
theorem cmapsym0 : Statement .cmapsym0 := fun _ => rfl
theorem cmapsymRun (v : Nat) : Statement (.cmapsymRun v) := fun h => by
  simp [Instr.wellFormed] at h; simp [Instr.row, fits]; omega
theorem cmapsymValue (v : Nat) : Statement (.cmapsymValue v) := fun h => by
  simp [Instr.wellFormed] at h; simp [Instr.row, fits]; omega
theorem litB (b : Byte) : Statement (.litB b) := fun _ => decide_eq_true (Nat.lt_trans b.isLt (by decide))
theorem cmdCell0 (sym : Nat) : Statement (.cmdCell0 sym) := fun h => by
  simp [Instr.wellFormed] at h; simp [Instr.row, fits]; omega
theorem cmdCell1 (sym : Nat) : Statement (.cmdCell1 sym) := fun h => by
  simp [Instr.wellFormed] at h; simp [Instr.row, fits]; omega
theorem cmdCell2 (sym : Nat) : Statement (.cmdCell2 sym) := fun h => by
  simp [Instr.wellFormed] at h; simp [Instr.row, fits]; omega
theorem cmdCell3 (sym : Nat) : Statement (.cmdCell3 sym) := fun h => by
  simp [Instr.wellFormed] at h; simp [Instr.row, fits]; omega
theorem cmdCell4 (sym : Nat) : Statement (.cmdCell4 sym) := fun h => by
  simp [Instr.wellFormed] at h; simp [Instr.row, fits]; omega
theorem cmdCell5 (sym : Nat) : Statement (.cmdCell5 sym) := fun h => by
  simp [Instr.wellFormed] at h; simp [Instr.row, fits]; omega
theorem cmdCell6 (sym : Nat) : Statement (.cmdCell6 sym) := fun h => by
  simp [Instr.wellFormed] at h; simp [Instr.row, fits]; omega
theorem cmdCell7 (sym : Nat) : Statement (.cmdCell7 sym) := fun h => by
  simp [Instr.wellFormed] at h; simp [Instr.row, fits]; omega
theorem cmdCell8 (sym : Nat) : Statement (.cmdCell8 sym) := fun h => by
  simp [Instr.wellFormed] at h; simp [Instr.row, fits]; omega
theorem cmdCell9 (sym : Nat) : Statement (.cmdCell9 sym) := fun h => by
  simp [Instr.wellFormed] at h; simp [Instr.row, fits]; omega
theorem cmdCell10 (sym : Nat) : Statement (.cmdCell10 sym) := fun h => by
  simp [Instr.wellFormed] at h; simp [Instr.row, fits]; omega
theorem inscode0 : Statement .inscode0 := fun _ => rfl
theorem inscode1 : Statement .inscode1 := fun _ => rfl
theorem inscode2 : Statement .inscode2 := fun _ => rfl
theorem inscode3 : Statement .inscode3 := fun _ => rfl
theorem inscode4 : Statement .inscode4 := fun _ => rfl
theorem inscode5 : Statement .inscode5 := fun _ => rfl
theorem inscode6 : Statement .inscode6 := fun _ => rfl
theorem inscode7 : Statement .inscode7 := fun _ => rfl
theorem inscode8 : Statement .inscode8 := fun _ => rfl
theorem inscode9 : Statement .inscode9 := fun _ => rfl
theorem inscode10 : Statement .inscode10 := fun _ => rfl
theorem inscode11 : Statement .inscode11 := fun _ => rfl
theorem inscode12 : Statement .inscode12 := fun _ => rfl
theorem inscode13 : Statement .inscode13 := fun _ => rfl
theorem inscode14 : Statement .inscode14 := fun _ => rfl
theorem inscode15 : Statement .inscode15 := fun _ => rfl
theorem inscode16 : Statement .inscode16 := fun _ => rfl
theorem inscode17 : Statement .inscode17 := fun _ => rfl
theorem inscode18 : Statement .inscode18 := fun _ => rfl
theorem inscode19 : Statement .inscode19 := fun _ => rfl
theorem inscode20 : Statement .inscode20 := fun _ => rfl
theorem inscode21 : Statement .inscode21 := fun _ => rfl
theorem inscode22 : Statement .inscode22 := fun _ => rfl
theorem inscode23 : Statement .inscode23 := fun _ => rfl
theorem copycode0 : Statement .copycode0 := fun _ => rfl
theorem copycode1 : Statement .copycode1 := fun _ => rfl
theorem copycode2 : Statement .copycode2 := fun _ => rfl
theorem copycode3 : Statement .copycode3 := fun _ => rfl
theorem copycode4 : Statement .copycode4 := fun _ => rfl
theorem copycode5 : Statement .copycode5 := fun _ => rfl
theorem copycode6 : Statement .copycode6 := fun _ => rfl
theorem copycode7 : Statement .copycode7 := fun _ => rfl
theorem copycode8 : Statement .copycode8 := fun _ => rfl
theorem copycode9 : Statement .copycode9 := fun _ => rfl
theorem copycode10 : Statement .copycode10 := fun _ => rfl
theorem copycode11 : Statement .copycode11 := fun _ => rfl
theorem copycode12 : Statement .copycode12 := fun _ => rfl
theorem copycode13 : Statement .copycode13 := fun _ => rfl
theorem copycode14 : Statement .copycode14 := fun _ => rfl
theorem copycode15 : Statement .copycode15 := fun _ => rfl
theorem copycode16 : Statement .copycode16 := fun _ => rfl
theorem copycode17 : Statement .copycode17 := fun _ => rfl
theorem copycode18 : Statement .copycode18 := fun _ => rfl
theorem copycode19 : Statement .copycode19 := fun _ => rfl
theorem copycode20 : Statement .copycode20 := fun _ => rfl
theorem copycode21 : Statement .copycode21 := fun _ => rfl
theorem copycode22 : Statement .copycode22 := fun _ => rfl
theorem copycode23 : Statement .copycode23 := fun _ => rfl
theorem dist0 : Statement .dist0 := fun _ => rfl
theorem dist1 : Statement .dist1 := fun _ => rfl
theorem dist2 : Statement .dist2 := fun _ => rfl
theorem dist3 : Statement .dist3 := fun _ => rfl
theorem dist4 : Statement .dist4 := fun _ => rfl
theorem dist5 : Statement .dist5 := fun _ => rfl
theorem dist6 : Statement .dist6 := fun _ => rfl
theorem dist7 : Statement .dist7 := fun _ => rfl
theorem dist8 : Statement .dist8 := fun _ => rfl
theorem dist9 : Statement .dist9 := fun _ => rfl
theorem dist10 : Statement .dist10 := fun _ => rfl
theorem dist11 : Statement .dist11 := fun _ => rfl
theorem dist12 : Statement .dist12 := fun _ => rfl
theorem dist13 : Statement .dist13 := fun _ => rfl
theorem dist14 : Statement .dist14 := fun _ => rfl
theorem dist15 : Statement .dist15 := fun _ => rfl
theorem distDirect (code : Nat) : Statement (.distDirect code) := fun h => by
  simp [Instr.wellFormed] at h; simp [Instr.row, fits]; omega
theorem distLong (code : Nat) : Statement (.distLong code) := fun h => by
  simp [Instr.wellFormed] at h; simp [Instr.row, fits]; omega
theorem topIdentity : Statement .topIdentity := fun _ => rfl
theorem topOmitLast1 : Statement .topOmitLast1 := fun _ => rfl
theorem topOmitLast2 : Statement .topOmitLast2 := fun _ => rfl
theorem topOmitLast3 : Statement .topOmitLast3 := fun _ => rfl
theorem topOmitLast4 : Statement .topOmitLast4 := fun _ => rfl
theorem topOmitLast5 : Statement .topOmitLast5 := fun _ => rfl
theorem topOmitLast6 : Statement .topOmitLast6 := fun _ => rfl
theorem topOmitLast7 : Statement .topOmitLast7 := fun _ => rfl
theorem topOmitLast8 : Statement .topOmitLast8 := fun _ => rfl
theorem topOmitLast9 : Statement .topOmitLast9 := fun _ => rfl
theorem topUppercaseFirst : Statement .topUppercaseFirst := fun _ => rfl
theorem topUppercaseAll : Statement .topUppercaseAll := fun _ => rfl
theorem topOmitFirst1 : Statement .topOmitFirst1 := fun _ => rfl
theorem topOmitFirst2 : Statement .topOmitFirst2 := fun _ => rfl
theorem topOmitFirst3 : Statement .topOmitFirst3 := fun _ => rfl
theorem topOmitFirst4 : Statement .topOmitFirst4 := fun _ => rfl
theorem topOmitFirst5 : Statement .topOmitFirst5 := fun _ => rfl
theorem topOmitFirst6 : Statement .topOmitFirst6 := fun _ => rfl
theorem topOmitFirst7 : Statement .topOmitFirst7 := fun _ => rfl
theorem topOmitFirst8 : Statement .topOmitFirst8 := fun _ => rfl
theorem topOmitFirst9 : Statement .topOmitFirst9 := fun _ => rfl
theorem topShiftFirst (param : BitVec 16) : Statement (.topShiftFirst param) := fun _ => rfl
theorem topShiftAll (param : BitVec 16) : Statement (.topShiftAll param) := fun _ => rfl
theorem transformReserved (tid : Nat) : Statement (.transformReserved tid) := fun _ => rfl
theorem transform0 : Statement .transform0 := fun _ => rfl
theorem transform1 : Statement .transform1 := fun _ => rfl
theorem transform2 : Statement .transform2 := fun _ => rfl
theorem transform3 : Statement .transform3 := fun _ => rfl
theorem transform4 : Statement .transform4 := fun _ => rfl
theorem transform5 : Statement .transform5 := fun _ => rfl
theorem transform6 : Statement .transform6 := fun _ => rfl
theorem transform7 : Statement .transform7 := fun _ => rfl
theorem transform8 : Statement .transform8 := fun _ => rfl
theorem transform9 : Statement .transform9 := fun _ => rfl
theorem transform10 : Statement .transform10 := fun _ => rfl
theorem transform11 : Statement .transform11 := fun _ => rfl
theorem transform12 : Statement .transform12 := fun _ => rfl
theorem transform13 : Statement .transform13 := fun _ => rfl
theorem transform14 : Statement .transform14 := fun _ => rfl
theorem transform15 : Statement .transform15 := fun _ => rfl
theorem transform16 : Statement .transform16 := fun _ => rfl
theorem transform17 : Statement .transform17 := fun _ => rfl
theorem transform18 : Statement .transform18 := fun _ => rfl
theorem transform19 : Statement .transform19 := fun _ => rfl
theorem transform20 : Statement .transform20 := fun _ => rfl
theorem transform21 : Statement .transform21 := fun _ => rfl
theorem transform22 : Statement .transform22 := fun _ => rfl
theorem transform23 : Statement .transform23 := fun _ => rfl
theorem transform24 : Statement .transform24 := fun _ => rfl
theorem transform25 : Statement .transform25 := fun _ => rfl
theorem transform26 : Statement .transform26 := fun _ => rfl
theorem transform27 : Statement .transform27 := fun _ => rfl
theorem transform28 : Statement .transform28 := fun _ => rfl
theorem transform29 : Statement .transform29 := fun _ => rfl
theorem transform30 : Statement .transform30 := fun _ => rfl
theorem transform31 : Statement .transform31 := fun _ => rfl
theorem transform32 : Statement .transform32 := fun _ => rfl
theorem transform33 : Statement .transform33 := fun _ => rfl
theorem transform34 : Statement .transform34 := fun _ => rfl
theorem transform35 : Statement .transform35 := fun _ => rfl
theorem transform36 : Statement .transform36 := fun _ => rfl
theorem transform37 : Statement .transform37 := fun _ => rfl
theorem transform38 : Statement .transform38 := fun _ => rfl
theorem transform39 : Statement .transform39 := fun _ => rfl
theorem transform40 : Statement .transform40 := fun _ => rfl
theorem transform41 : Statement .transform41 := fun _ => rfl
theorem transform42 : Statement .transform42 := fun _ => rfl
theorem transform43 : Statement .transform43 := fun _ => rfl
theorem transform44 : Statement .transform44 := fun _ => rfl
theorem transform45 : Statement .transform45 := fun _ => rfl
theorem transform46 : Statement .transform46 := fun _ => rfl
theorem transform47 : Statement .transform47 := fun _ => rfl
theorem transform48 : Statement .transform48 := fun _ => rfl
theorem transform49 : Statement .transform49 := fun _ => rfl
theorem transform50 : Statement .transform50 := fun _ => rfl
theorem transform51 : Statement .transform51 := fun _ => rfl
theorem transform52 : Statement .transform52 := fun _ => rfl
theorem transform53 : Statement .transform53 := fun _ => rfl
theorem transform54 : Statement .transform54 := fun _ => rfl
theorem transform55 : Statement .transform55 := fun _ => rfl
theorem transform56 : Statement .transform56 := fun _ => rfl
theorem transform57 : Statement .transform57 := fun _ => rfl
theorem transform58 : Statement .transform58 := fun _ => rfl
theorem transform59 : Statement .transform59 := fun _ => rfl
theorem transform60 : Statement .transform60 := fun _ => rfl
theorem transform61 : Statement .transform61 := fun _ => rfl
theorem transform62 : Statement .transform62 := fun _ => rfl
theorem transform63 : Statement .transform63 := fun _ => rfl
theorem transform64 : Statement .transform64 := fun _ => rfl
theorem transform65 : Statement .transform65 := fun _ => rfl
theorem transform66 : Statement .transform66 := fun _ => rfl
theorem transform67 : Statement .transform67 := fun _ => rfl
theorem transform68 : Statement .transform68 := fun _ => rfl
theorem transform69 : Statement .transform69 := fun _ => rfl
theorem transform70 : Statement .transform70 := fun _ => rfl
theorem transform71 : Statement .transform71 := fun _ => rfl
theorem transform72 : Statement .transform72 := fun _ => rfl
theorem transform73 : Statement .transform73 := fun _ => rfl
theorem transform74 : Statement .transform74 := fun _ => rfl
theorem transform75 : Statement .transform75 := fun _ => rfl
theorem transform76 : Statement .transform76 := fun _ => rfl
theorem transform77 : Statement .transform77 := fun _ => rfl
theorem transform78 : Statement .transform78 := fun _ => rfl
theorem transform79 : Statement .transform79 := fun _ => rfl
theorem transform80 : Statement .transform80 := fun _ => rfl
theorem transform81 : Statement .transform81 := fun _ => rfl
theorem transform82 : Statement .transform82 := fun _ => rfl
theorem transform83 : Statement .transform83 := fun _ => rfl
theorem transform84 : Statement .transform84 := fun _ => rfl
theorem transform85 : Statement .transform85 := fun _ => rfl
theorem transform86 : Statement .transform86 := fun _ => rfl
theorem transform87 : Statement .transform87 := fun _ => rfl
theorem transform88 : Statement .transform88 := fun _ => rfl
theorem transform89 : Statement .transform89 := fun _ => rfl
theorem transform90 : Statement .transform90 := fun _ => rfl
theorem transform91 : Statement .transform91 := fun _ => rfl
theorem transform92 : Statement .transform92 := fun _ => rfl
theorem transform93 : Statement .transform93 := fun _ => rfl
theorem transform94 : Statement .transform94 := fun _ => rfl
theorem transform95 : Statement .transform95 := fun _ => rfl
theorem transform96 : Statement .transform96 := fun _ => rfl
theorem transform97 : Statement .transform97 := fun _ => rfl
theorem transform98 : Statement .transform98 := fun _ => rfl
theorem transform99 : Statement .transform99 := fun _ => rfl
theorem transform100 : Statement .transform100 := fun _ => rfl
theorem transform101 : Statement .transform101 := fun _ => rfl
theorem transform102 : Statement .transform102 := fun _ => rfl
theorem transform103 : Statement .transform103 := fun _ => rfl
theorem transform104 : Statement .transform104 := fun _ => rfl
theorem transform105 : Statement .transform105 := fun _ => rfl
theorem transform106 : Statement .transform106 := fun _ => rfl
theorem transform107 : Statement .transform107 := fun _ => rfl
theorem transform108 : Statement .transform108 := fun _ => rfl
theorem transform109 : Statement .transform109 := fun _ => rfl
theorem transform110 : Statement .transform110 := fun _ => rfl
theorem transform111 : Statement .transform111 := fun _ => rfl
theorem transform112 : Statement .transform112 := fun _ => rfl
theorem transform113 : Statement .transform113 := fun _ => rfl
theorem transform114 : Statement .transform114 := fun _ => rfl
theorem transform115 : Statement .transform115 := fun _ => rfl
theorem transform116 : Statement .transform116 := fun _ => rfl
theorem transform117 : Statement .transform117 := fun _ => rfl
theorem transform118 : Statement .transform118 := fun _ => rfl
theorem transform119 : Statement .transform119 := fun _ => rfl
theorem transform120 : Statement .transform120 := fun _ => rfl
theorem dictbucket4 : Statement .dictbucket4 := fun _ => rfl
theorem dictbucket5 : Statement .dictbucket5 := fun _ => rfl
theorem dictbucket6 : Statement .dictbucket6 := fun _ => rfl
theorem dictbucket7 : Statement .dictbucket7 := fun _ => rfl
theorem dictbucket8 : Statement .dictbucket8 := fun _ => rfl
theorem dictbucket9 : Statement .dictbucket9 := fun _ => rfl
theorem dictbucket10 : Statement .dictbucket10 := fun _ => rfl
theorem dictbucket11 : Statement .dictbucket11 := fun _ => rfl
theorem dictbucket12 : Statement .dictbucket12 := fun _ => rfl
theorem dictbucket13 : Statement .dictbucket13 := fun _ => rfl
theorem dictbucket14 : Statement .dictbucket14 := fun _ => rfl
theorem dictbucket15 : Statement .dictbucket15 := fun _ => rfl
theorem dictbucket16 : Statement .dictbucket16 := fun _ => rfl
theorem dictbucket17 : Statement .dictbucket17 := fun _ => rfl
theorem dictbucket18 : Statement .dictbucket18 := fun _ => rfl
theorem dictbucket19 : Statement .dictbucket19 := fun _ => rfl
theorem dictbucket20 : Statement .dictbucket20 := fun _ => rfl
theorem dictbucket21 : Statement .dictbucket21 := fun _ => rfl
theorem dictbucket22 : Statement .dictbucket22 := fun _ => rfl
theorem dictbucket23 : Statement .dictbucket23 := fun _ => rfl
theorem dictbucket24 : Statement .dictbucket24 := fun _ => rfl

end Sys2Proof.Laws.RowFits
end

