-- ==== Sys2Proof/Tests/Slice0.lean ====
section
/-! SUPPORT. The model's own tests: ill-formed terms, decoding of words written out from the spec's encodings, single steps with
results from 95_test_vectors.md or computed by hand, and for every obligation with hypotheses a state and operands that meet
them. -/

namespace Sys2Proof.Tests

open Sys2Proof.Machine

-- One theorem at a time, so that the checks that wait for the kernel do not pile up.
set_option Elab.async false

/-! ### Helpers -/

/-- Each word, with one more bit after it, decodes at `c` to its instruction and takes all its bits; and it is what the
encoder writes. -/
def reads (c : Ctx) (l : List (List Nat × Instr)) : Bool :=
  l.all fun p =>
    (match decode c (pattern p.1 ++ [true]) with
    | .ok (i, n) => decide (i = p.2) && n == p.1.length
    | .error _ => false) && encode c p.2 == some (pattern p.1)

/-- A state in the given decoder state and phase whose input is the bits `w`, zeros filling the last byte, with WBITS 10. -/
def bed (st : DecState) (ph : CmdPhase) (w : List Nat) : State :=
  { State.reset with
    state := st, cmdPhase := ph, inp := Memory.ofBytes (bytesOfBits ((w.length + 7) / 8) (pattern w)), wbits := 10 }

/-- The next state exists and passes `p`. -/
def next (a : Answer State) (p : State → Bool) : Bool :=
  match a with
  | .next t => p t
  | .fault _ | .refused _ => false

/-- The answer is the error `k` with the cursor at `p`. -/
def raises (a : Answer State) (k : ErrorKind) (p : Nat) : Bool :=
  next a fun t => t.state == .error && t.err.map (·.kind) == some k && t.bitpos == p

/-- The computation ends in a state that passes `p`. -/
def ends (r : Res State) (p : State → Bool) : Bool :=
  match r with
  | .ok t => p t
  | .error _ => false

/-- The computation stops with the error `k` at the cursor `p`. -/
def stops (r : Res State) (k : ErrorKind) (p : Nat) : Bool :=
  match r with
  | .error (.raise j _ q) => j == k && q == p
  | .error (.fault _) | .error (.refuse _) | .ok _ => false

/-- Bytes as the spec's tables write them. -/
def octets (l : List Nat) : List Byte := l.map (BitVec.ofNat 8)

/-! ### Ill-formed terms are refused -/

theorem test_ill_formed_fields :
    ([.mlenNibble 16, .mskiplenByte 256, .varlenN1 2, .varlenN2 4, .varlenN3 8, .varlenN4 16, .varlenN5 32, .varlenN6 64,
      .varlenN7 128, .ndirect 16, .cmapRlemax 16] : List Instr).all (fun i => !i.wellFormed) = true := by decide

theorem test_ill_formed_padding :
    ([.pad .interior 8 0, .pad .final 0 1, .pad .final 7 128] : List Instr).all (fun i => !i.wellFormed) = true := by decide

theorem test_ill_formed_symbols :
    ([.btypeT .L 1, .btypeT .D 258, .cmapsymRun 0, .cmapsymRun 17, .cmapsymValue 0, .cmapsymValue 272, .distDirect 15,
      .distDirect 136, .distLong 15, .distLong 520, .transformReserved 120] : List Instr).all (fun i => !i.wellFormed) =
      true := by decide

theorem test_ill_formed_commands :
    ([.cmdCell0 64, .cmdCell1 63, .cmdCell1 128, .cmdCell2 127, .cmdCell2 192, .cmdCell3 191, .cmdCell3 256, .cmdCell4 255,
      .cmdCell4 320, .cmdCell5 319, .cmdCell5 384, .cmdCell6 383, .cmdCell6 448, .cmdCell7 447, .cmdCell7 512, .cmdCell8 511,
      .cmdCell8 576, .cmdCell9 575, .cmdCell9 640, .cmdCell10 639, .cmdCell10 704] : List Instr).all
      (fun i => !i.wellFormed) = true := by decide

/-- The largest operands are well formed. -/
theorem test_well_formed_at_the_bounds :
    ([.mlenNibble 15, .mskiplenByte 255, .pad .final 7 127, .varlenN7 127, .ndirect 15, .cmapRlemax 15, .btypeT .L 257,
      .cmapsymRun 16, .cmapsymValue 271, .cmdCell0 63, .cmdCell10 703, .distDirect 135, .distLong 519,
      .transformReserved 121] : List Instr).all (·.wellFormed) = true := by decide

/-! ### Decoding words written out from the spec -/

/-- The window-size field (30_encoding.md R73; V2). -/
theorem test_decode_wbits : reads (.field .wbits) [
    ([0], .wbits16), ([1, 1, 0, 0], .wbits18), ([1, 0, 1, 0], .wbits19), ([1, 1, 1, 0], .wbits20),
    ([1, 0, 0, 1], .wbits21), ([1, 1, 0, 1], .wbits22), ([1, 0, 1, 1], .wbits23), ([1, 1, 1, 1], .wbits24),
    ([1, 0, 0, 0, 0, 0, 0], .wbits17), ([1, 0, 0, 0, 1, 0, 0], .wbitsLarge), ([1, 0, 0, 0, 0, 1, 0], .wbits10),
    ([1, 0, 0, 0, 1, 1, 0], .wbits11), ([1, 0, 0, 0, 0, 0, 1], .wbits12), ([1, 0, 0, 0, 1, 0, 1], .wbits13),
    ([1, 0, 0, 0, 0, 1, 1], .wbits14), ([1, 0, 0, 0, 1, 1, 1], .wbits15)] = true := by decide

/-- ISLAST and ISLASTEMPTY (42_metablock.md R132). -/
theorem test_decode_mhdr : reads (.field .mhdr) [
    ([1, 1], .mhdrLast1Empty1), ([1, 0], .mhdrLast1Empty0), ([0], .mhdrLast0)] = true := by decide

/-- MNIBBLES (30_encoding.md R74; V3). -/
theorem test_decode_mnibbles : reads (.field .mnibbles) [
    ([0, 0], .mnibbles0), ([1, 0], .mnibbles1), ([0, 1], .mnibbles2), ([1, 1], .mnibbles3)] = true := by decide

/-- A nibble of MLEN - 1: the first bit read is bit 0 (42_metablock.md R134). -/
theorem test_decode_mlen : reads (.field .mlen) [
    ([1, 0, 1, 1], .mlenNibble 13)] = true := by decide

/-- ISUNCOMPRESSED (42_metablock.md R135). -/
theorem test_decode_is_uncompressed : reads (.field .isUncompressed) [
    ([0], .isuncompressed0), ([1], .isuncompressed1)] = true := by decide

/-- The reserved bit (42_metablock.md R137). -/
theorem test_decode_reserved : reads (.field .reserved) [
    ([0], .metadataReserved0), ([1], .metadataReserved1)] = true := by decide

/-- MSKIPBYTES (42_metablock.md R137). -/
theorem test_decode_mskipbytes : reads (.field .mskipbytes) [
    ([0, 0], .mskipbytes0), ([1, 0], .mskipbytes1), ([0, 1], .mskipbytes2), ([1, 1], .mskipbytes3)] = true := by decide

/-- A byte of MSKIPLEN - 1 (42_metablock.md R138). -/
theorem test_decode_mskiplen : reads (.field .mskiplen) [
    ([1, 0, 1, 1, 0, 1, 1, 1], .mskiplenByte 237)] = true := by decide

/-- The variable-length count (30_encoding.md R75). -/
theorem test_decode_varlen : reads (.field .varlen) [
    ([0], .varlen0), ([1, 0, 0, 0], .varlen1), ([1, 1, 0, 0, 1], .varlenN1 1), ([1, 0, 1, 0, 1, 0], .varlenN2 1),
    ([1, 1, 1, 0, 1, 0, 1], .varlenN3 5), ([1, 0, 0, 1, 1, 0, 1, 1], .varlenN4 13),
    ([1, 1, 0, 1, 1, 0, 1, 1, 0], .varlenN5 13), ([1, 0, 1, 1, 1, 0, 1, 1, 0, 1], .varlenN6 45),
    ([1, 1, 1, 1, 1, 0, 1, 1, 0, 1, 1], .varlenN7 109)] = true := by decide

/-- NPOSTFIX (42_metablock.md R145). -/
theorem test_decode_npostfix : reads (.field .npostfix) [
    ([0, 0], .npostfix0), ([1, 0], .npostfix1), ([0, 1], .npostfix2), ([1, 1], .npostfix3)] = true := by decide

/-- NDIRECT (42_metablock.md R145). -/
theorem test_decode_ndirect : reads (.field .ndirect) [
    ([1, 0, 1, 1], .ndirect 13)] = true := by decide

/-- A context mode (30_encoding.md R86). -/
theorem test_decode_cmode : reads (.field .cmode) [
    ([0, 0], .cmodeLsb6), ([1, 0], .cmodeMsb6), ([0, 1], .cmodeUtf8), ([1, 1], .cmodeSigned)] = true := by decide

/-- RLEMAX with its flag (42_metablock.md R148). -/
theorem test_decode_rlemax : reads (.field .rlemax) [
    ([0], .cmapRlemax0), ([1, 1, 0, 1, 1], .cmapRlemax 13)] = true := by decide

/-- The inverse move-to-front flag (42_metablock.md R152). -/
theorem test_decode_imtf : reads (.field .imtf) [
    ([0], .cmapImtf0), ([1], .cmapImtf1)] = true := by decide

/-- HSKIP (41_prefix_codes.md R104). -/
theorem test_decode_hskip : reads (.field .hskip) [
    ([0, 0], .hskip0), ([1, 0], .hskip1), ([0, 1], .hskip2), ([1, 1], .hskip3)] = true := by decide

/-- NSYM (41_prefix_codes.md R105). -/
theorem test_decode_nsym : reads (.field .nsym) [
    ([0, 0], .nsym1), ([1, 0], .nsym2), ([0, 1], .nsym3), ([1, 1], .nsym4)] = true := by decide

/-- The tree-select bit (41_prefix_codes.md R107). -/
theorem test_decode_tree_select : reads (.field .treeSelect) [
    ([0], .treeselect0), ([1], .treeselect1)] = true := by decide

/-- The code-length-code lengths (30_encoding.md R76; V6). -/
theorem test_decode_clcl : reads (.field .clcl) [
    ([0, 0], .clcl0), ([0, 1], .clcl3), ([1, 0], .clcl4), ([1, 1, 0], .clcl2), ([1, 1, 1, 0], .clcl1),
    ([1, 1, 1, 1], .clcl5)] = true := by decide

/-- The code-length symbols: 14 codewords of 4 bits, 4 of 5 (30_encoding.md R77; 41_prefix_codes.md R120). -/
theorem test_decode_code_length : reads (.symbol .codeLength (List.replicate 14 4 ++ List.replicate 4 5)) [
    ([0, 0, 0, 0], .clsym0), ([0, 0, 0, 1], .clsym1), ([0, 0, 1, 0], .clsym2), ([0, 0, 1, 1], .clsym3),
    ([0, 1, 0, 0], .clsym4), ([0, 1, 0, 1], .clsym5), ([0, 1, 1, 0], .clsym6), ([0, 1, 1, 1], .clsym7),
    ([1, 0, 0, 0], .clsym8), ([1, 0, 0, 1], .clsym9), ([1, 0, 1, 0], .clsym10), ([1, 0, 1, 1], .clsym11),
    ([1, 1, 0, 0], .clsym12), ([1, 1, 0, 1], .clsym13), ([1, 1, 1, 0, 0], .clsym14), ([1, 1, 1, 0, 1], .clsym15),
    ([1, 1, 1, 1, 0], .clsym16), ([1, 1, 1, 1, 1], .clsym17)] = true := by decide

/-- The block-count symbols: 6 codewords of 4 bits, 20 of 5 (30_encoding.md R80; 41_prefix_codes.md R120). -/
theorem test_decode_block_count : reads (.symbol (.blockCount .I) (List.replicate 6 4 ++ List.replicate 20 5)) [
    ([0, 0, 0, 0], .blen0 .I), ([0, 0, 0, 1], .blen1 .I), ([0, 0, 1, 0], .blen2 .I), ([0, 0, 1, 1], .blen3 .I),
    ([0, 1, 0, 0], .blen4 .I), ([0, 1, 0, 1], .blen5 .I), ([0, 1, 1, 0, 0], .blen6 .I), ([0, 1, 1, 0, 1], .blen7 .I),
    ([0, 1, 1, 1, 0], .blen8 .I), ([0, 1, 1, 1, 1], .blen9 .I), ([1, 0, 0, 0, 0], .blen10 .I),
    ([1, 0, 0, 0, 1], .blen11 .I), ([1, 0, 0, 1, 0], .blen12 .I), ([1, 0, 0, 1, 1], .blen13 .I),
    ([1, 0, 1, 0, 0], .blen14 .I), ([1, 0, 1, 0, 1], .blen15 .I), ([1, 0, 1, 1, 0], .blen16 .I),
    ([1, 0, 1, 1, 1], .blen17 .I), ([1, 1, 0, 0, 0], .blen18 .I), ([1, 1, 0, 0, 1], .blen19 .I),
    ([1, 1, 0, 1, 0], .blen20 .I), ([1, 1, 0, 1, 1], .blen21 .I), ([1, 1, 1, 0, 0], .blen22 .I),
    ([1, 1, 1, 0, 1], .blen23 .I), ([1, 1, 1, 1, 0], .blen24 .I), ([1, 1, 1, 1, 1], .blen25 .I)] = true := by decide

/-- The block-type symbols of three types (30_encoding.md R79). -/
theorem test_decode_block_type : reads (.symbol (.blockType .D) ([2, 3, 3, 2, 2])) [
    ([0, 0], .btype0 .D), ([1, 1, 0], .btype1 .D), ([1, 1, 1], .btypeT .D 2), ([0, 1], .btypeT .D 3),
    ([1, 0], .btypeT .D 4)] = true := by decide

/-- The context-map symbols with RLEMAX = 2: a zero, two runs, a value (30_encoding.md R92). -/
theorem test_decode_context_map : reads (.symbol (.contextMap 2) ([2, 2, 2, 2])) [
    ([0, 0], .cmapsym0), ([0, 1], .cmapsymRun 1), ([1, 0], .cmapsymRun 2), ([1, 1], .cmapsymValue 3)] = true := by decide

/-- Literals under 256 codewords of 8 bits: a codeword comes most significant bit first (30_encoding.md R71). -/
theorem test_decode_literal : reads (.symbol .literal (List.replicate 256 8)) [
    ([0, 0, 0, 0, 0, 0, 0, 0], .litB 0), ([0, 1, 0, 0, 0, 0, 0, 1], .litB 0x41),
    ([1, 0, 1, 1, 0, 0, 0, 0], .litB 0xB0), ([1, 1, 1, 1, 1, 1, 1, 1], .litB 255)] = true := by decide +kernel

/-- The command cells at their first and their last symbol (30_encoding.md R81). -/
theorem test_decode_command :
  reads (.symbol .command (List.replicate 0 0 ++ [1] ++ List.replicate 62 0 ++ [1]))
    [([0], .cmdCell0 0), ([1], .cmdCell0 63)] = true ∧
  reads (.symbol .command (List.replicate 64 0 ++ [1] ++ List.replicate 62 0 ++ [1]))
    [([0], .cmdCell1 64), ([1], .cmdCell1 127)] = true ∧
  reads (.symbol .command (List.replicate 128 0 ++ [1] ++ List.replicate 62 0 ++ [1]))
    [([0], .cmdCell2 128), ([1], .cmdCell2 191)] = true ∧
  reads (.symbol .command (List.replicate 192 0 ++ [1] ++ List.replicate 62 0 ++ [1]))
    [([0], .cmdCell3 192), ([1], .cmdCell3 255)] = true ∧
  reads (.symbol .command (List.replicate 256 0 ++ [1] ++ List.replicate 62 0 ++ [1]))
    [([0], .cmdCell4 256), ([1], .cmdCell4 319)] = true ∧
  reads (.symbol .command (List.replicate 320 0 ++ [1] ++ List.replicate 62 0 ++ [1]))
    [([0], .cmdCell5 320), ([1], .cmdCell5 383)] = true ∧
  reads (.symbol .command (List.replicate 384 0 ++ [1] ++ List.replicate 62 0 ++ [1]))
    [([0], .cmdCell6 384), ([1], .cmdCell6 447)] = true ∧
  reads (.symbol .command (List.replicate 448 0 ++ [1] ++ List.replicate 62 0 ++ [1]))
    [([0], .cmdCell7 448), ([1], .cmdCell7 511)] = true ∧
  reads (.symbol .command (List.replicate 512 0 ++ [1] ++ List.replicate 62 0 ++ [1]))
    [([0], .cmdCell8 512), ([1], .cmdCell8 575)] = true ∧
  reads (.symbol .command (List.replicate 576 0 ++ [1] ++ List.replicate 62 0 ++ [1]))
    [([0], .cmdCell9 576), ([1], .cmdCell9 639)] = true ∧
  reads (.symbol .command (List.replicate 640 0 ++ [1] ++ List.replicate 62 0 ++ [1]))
    [([0], .cmdCell10 640), ([1], .cmdCell10 703)] = true := by decide +kernel

/-- The distance symbols with NDIRECT = 4 and NPOSTFIX = 0: short, direct and long, 60 codewords of 6 bits and 8 of 7
(30_encoding.md R84, R85). -/
theorem test_decode_distance : reads (.symbol (.distance 4) (List.replicate 60 6 ++ List.replicate 8 7)) [
    ([0, 0, 0, 0, 0, 0], .dist0), ([0, 0, 0, 0, 0, 1], .dist1), ([0, 0, 0, 0, 1, 0], .dist2),
    ([0, 0, 0, 0, 1, 1], .dist3), ([0, 0, 0, 1, 0, 0], .dist4), ([0, 0, 0, 1, 0, 1], .dist5),
    ([0, 0, 0, 1, 1, 0], .dist6), ([0, 0, 0, 1, 1, 1], .dist7), ([0, 0, 1, 0, 0, 0], .dist8),
    ([0, 0, 1, 0, 0, 1], .dist9), ([0, 0, 1, 0, 1, 0], .dist10), ([0, 0, 1, 0, 1, 1], .dist11),
    ([0, 0, 1, 1, 0, 0], .dist12), ([0, 0, 1, 1, 0, 1], .dist13), ([0, 0, 1, 1, 1, 0], .dist14),
    ([0, 0, 1, 1, 1, 1], .dist15), ([0, 1, 0, 0, 0, 0], .distDirect 16), ([0, 1, 0, 0, 1, 1], .distDirect 19),
    ([0, 1, 0, 1, 0, 0], .distLong 20), ([1, 1, 1, 0, 1, 1], .distLong 59), ([1, 1, 1, 1, 0, 0, 0], .distLong 60),
    ([1, 1, 1, 1, 1, 1, 1], .distLong 67)] = true := by decide +kernel

/-- Padding of three bits with a one in the middle (40_bitreader.md R98). -/
theorem test_decode_padding : reads (.padding .interior 3) [([0, 0, 0], .pad .interior 3 0), ([0, 1, 0], .pad .interior 3 2)] =
    true := by decide

/-- The operation of each decoder state and phase (10_state.md R20, R22; 43_command_loop.md R178). -/
theorem test_decode_operations :
    reads (.operation .streamHeader .cmdBegin false) [([], .streamHeader)] = true ∧
    reads (.operation .metaBlockHeader .cmdBegin false) [([], .mhdr)] = true ∧
    reads (.operation .metadata .cmdBegin false) [([], .metadata)] = true ∧
    reads (.operation .uncompressedBody .cmdBegin false) [([], .uncompressed)] = true ∧
    reads (.operation .compressedSetup .cmdBegin false) [([], .setup)] = true ∧
    reads (.operation .commandLoop .cmdBegin false) [([], .cmd)] = true ∧
    reads (.operation .commandLoop .insert false) [([], .lit)] = true ∧
    reads (.operation .commandLoop .distance false) [([], .dist)] = true ∧
    reads (.operation .commandLoop .copy false) [([], .copy)] = true ∧
    reads (.operation .commandLoop .copy true) [([], .dict)] = true := by decide

/-- The rows of the constant tables stand at their values, in order: 24 insert and copy length codes, 23 transform ops, 121
transforms, 21 buckets (30_encoding.md R82, R83; 44_dictionary_transforms.md R192, R198, R206). No bits spell them. -/
theorem test_decode_table_entries :
    insertLengthRows.map Instr.row = (List.range 24).map .entry ∧
    copyLengthRows.map Instr.row = (List.range 24).map .entry ∧
    (transformOpRows 7).map Instr.row = (List.range 23).map .entry ∧
    transformRows.map Instr.row = (List.range 121).map .entry ∧
    dictBucketRows.map Instr.row = (List.range 21).map (fun k => .entry (k + 4)) := by decide

theorem test_decode_table_bounds :
    reads (.entry .insertLength 23) [([], .inscode23)] = true ∧
    reads (.entry .copyLength 5) [([], .copycode5)] = true ∧
    reads (.entry (.transformOp 1) 21) [([], .topShiftFirst 1)] = true ∧
    reads (.entry .transform 120) [([], .transform120)] = true ∧
    reads (.entry .transform 121) [([], .transformReserved 121)] = true ∧
    reads (.entry .dictBucket 4) [([], .dictbucket4)] = true ∧
    reads (.entry .dictBucket 24) [([], .dictbucket24)] = true := by decide

/-- A degenerate code gives its symbol and takes no bits (41_prefix_codes.md R124; W2). -/
theorem test_decode_degenerate : reads (.symbol .codeLength [0, 0, 0, 1]) [([], .clsym3)] = true := by decide

/-- The host's view of the WBITS rows: `1011` is 13, `1000010` is 33 (spec/opcode_table.json). -/
theorem test_table_words :
    decodeTableWord 8 13 = some .wbits23 ∧ decodeTableWord 8 33 = some .wbits10 ∧ decodeTableWord 8 0 = some .wbits16 := by
  decide

/-- The instruction placed for the host is the next one run (V2). -/
theorem test_fetch_word : next (step (State.reset.withFetchWord 8 13)) (fun t => t.wbits == 23 && t.bitpos == 4) = true := by
  decide

/-! ### The bit reader (V1) -/

theorem test_read_bits :
    readBits 1 (bed .metadata .copy [1, 1, 0, 1, 1, 1, 0, 0]) =
      .ok (1, { bed .metadata .copy [1, 1, 0, 1, 1, 1, 0, 0] with bitpos := 1 }) ∧
    (bed .metadata .copy [1, 1, 0, 1, 1, 1, 0, 0]).inp.field 1 3 = 5 ∧
    (Memory.ofBytes (octets [0xFF, 0x01])).field 6 4 = 7 := by decide

theorem test_read_bits_past_the_end :
    (match readBits 1 { bed .metadata .copy [1, 1, 0, 1, 1, 1, 0, 0] with bitpos := 8 } with
    | .error (.raise .invalidArguments _ 8) => true
    | _ => false) = true ∧
    readBits 0 { bed .metadata .copy [1] with bitpos := 8 } = .ok (0, { bed .metadata .copy [1] with bitpos := 8 }) := by
  decide

theorem test_align :
    stops (alignToByte .interior { bed .metadata .copy [1, 1, 0, 1, 1, 1, 0, 0] with bitpos := 5 }) .formatPadding1 8 = true ∧
    ends (alignToByte .interior { bed .metadata .copy [1, 1, 1] with bitpos := 3 }) (·.bitpos == 8) = true ∧
    ends (alignToByte .interior { bed .metadata .copy [1, 1, 1] with bitpos := 8 }) (·.bitpos == 8) = true := by decide

theorem test_read_bytes :
    ends (readBytes 3 { State.reset with inp := Memory.ofBytes (octets [0, 0x41, 0x42, 0x43]), bitpos := 8 })
      (fun t => t.out.bytes == octets [0x41, 0x42, 0x43] && t.bitpos == 32) = true ∧
    stops (readBytes 2 { State.reset with inp := Memory.ofBytes (octets [0, 0x41]), bitpos := 8 }) .invalidArguments 8 =
      true ∧
    ends (skipBytes 2 { State.reset with inp := Memory.ofBytes (octets [0, 0x41, 0x42]), bitpos := 8 })
      (fun t => t.out == [] && t.bitpos == 24) = true := by decide

/-! ### Headers (V2 to V4, E1 to E9) -/

/-- The window sizes of V2. -/
theorem test_stream_header :
    ([([0], 16), ([1, 1, 0, 0], 18), ([1, 0, 1, 0], 19), ([1, 1, 1, 0], 20), ([1, 0, 0, 1], 21), ([1, 1, 0, 1], 22),
      ([1, 0, 1, 1], 23), ([1, 1, 1, 1], 24), ([1, 0, 0, 0, 0, 0, 0], 17), ([1, 0, 0, 0, 0, 1, 0], 10),
      ([1, 0, 0, 0, 1, 1, 0], 11), ([1, 0, 0, 0, 0, 0, 1], 12), ([1, 0, 0, 0, 1, 0, 1], 13), ([1, 0, 0, 0, 0, 1, 1], 14),
      ([1, 0, 0, 0, 1, 1, 1], 15)] : List (List Nat × Nat)).all (fun p =>
        next (exec .streamHeader (bed .streamHeader .cmdBegin p.1)) fun t =>
          t.wbits == p.2 && t.bitpos == p.1.length && t.state == .metaBlockHeader) = true := by decide

/-- E1, E2, E2b, and the refusal under LARGE_WINDOW (42_metablock.md R131). -/
theorem test_stream_header_ends :
    raises (exec .streamHeader (bed .streamHeader .cmdBegin [1, 0, 0, 0, 1, 0, 0])) .formatWindowBits 7 = true ∧
    exec .streamHeader { bed .streamHeader .cmdBegin [1, 0, 0, 0, 1, 0, 0] with
      params := { Params.default with largeWindow := true } } = .refused .largeWindow ∧
    raises (exec .streamHeader State.reset) .invalidArguments 0 = true ∧
    next (exec .streamHeader { State.reset with params := { Params.default with emptyInputOk := true } })
      (fun t => t.state == .done && t.out == []) = true := ⟨by decide, rfl, by decide, by decide⟩

/-- V3: MLEN 3 uncompressed; MLEN 6 in a last meta-block; MLEN 65537 in five nibbles. -/
theorem test_mhdr :
    next (exec .mhdr (bed .metaBlockHeader .cmdBegin [0, 0, 0, 0, 1, 0, 0, 0, 0, 0, 0, 0, 0, 0, 0, 0, 0, 0, 0, 1]))
      (fun t => t.mlen == 3 && t.state == .uncompressedBody && t.remaining == 3 && t.bitpos == 20 && !t.isLast) = true ∧
    next (exec .mhdr (bed .metaBlockHeader .cmdBegin [1, 0, 0, 0, 1, 0, 1, 0, 0, 0, 0, 0, 0, 0, 0, 0, 0, 0, 0, 0]))
      (fun t => t.mlen == 6 && t.state == .compressedSetup && t.isLast && t.bitpos == 20) = true ∧
    next (exec .mhdr (bed .metaBlockHeader .cmdBegin
      [0, 1, 0, 0, 0, 0, 0, 0, 0, 0, 0, 0, 0, 0, 0, 0, 0, 0, 0, 1, 0, 0, 0, 0]))
      (fun t => t.mlen == 65537 && t.bitpos == 24) = true := by decide

/-- E5, E3 and P1: an exuberant nibble; padding that is not zero; an empty last meta-block. -/
theorem test_mhdr_ends :
    raises (exec .mhdr (bed .metaBlockHeader .cmdBegin [0, 1, 0, 0, 0, 1, 0, 0, 0, 0, 0, 0, 0, 0, 0, 0, 0, 0, 0, 0, 0, 0, 0]))
      .formatExuberantNibble 23 = true ∧
    raises (exec .mhdr { bed .metaBlockHeader .cmdBegin [0, 1, 1, 1, 0, 0, 0, 0] with bitpos := 1 }) .formatPadding2 8 =
      true ∧
    next (exec .mhdr { bed .metaBlockHeader .cmdBegin [0, 1, 1, 0, 0, 0, 0, 0] with bitpos := 1 })
      (fun t => t.state == .done && t.bitpos == 8) = true := by decide

/-- V4: MSKIPBYTES 0; two bytes skipped. -/
theorem test_metadata :
    next (exec .metadata (bed .metadata .cmdBegin [0, 0, 0]))
      (fun t => t.bitpos == 8 && t.state == .metaBlockHeader && t.out == []) = true ∧
    next (exec .metadata (bed .metadata .cmdBegin
      [0, 1, 0, 1, 0, 0, 0, 0, 0, 0, 0, 0, 0, 0, 0, 0, 1, 1, 1, 1, 1, 1, 1, 1, 1, 1, 1, 1, 1, 1, 1, 1]))
      (fun t => t.bitpos == 32 && t.out == []) = true := by decide

/-- E6 and E7: the reserved bit; a zero last byte of two. -/
theorem test_metadata_ends :
    raises (exec .metadata (bed .metadata .cmdBegin [1, 0, 0])) .formatReserved 1 = true ∧
    raises (exec .metadata (bed .metadata .cmdBegin [0, 0, 1, 1, 0, 1, 0, 0, 0, 0, 0, 0, 0, 0, 0, 0, 0, 0, 0]))
      .formatExuberantMetaNibble 19 = true := by decide

/-- W3 and E8: three raw bytes copied; padding that is not zero. -/
theorem test_uncompressed :
    next (exec .uncompressed { State.reset with
        state := .uncompressedBody, inp := Memory.ofBytes (octets [0, 0x41, 0x42, 0x43]), bitpos := 5, mlen := 3,
        remaining := 3 })
      (fun t => t.out.bytes == octets [0x41, 0x42, 0x43] && t.remaining == 0 && t.bitpos == 32 &&
        t.state == .metaBlockHeader) = true ∧
    raises (exec .uncompressed { bed .uncompressedBody .cmdBegin [0, 0, 0, 0, 0, 0, 1, 0] with bitpos := 5, mlen := 1 })
      .formatPadding1 8 = true := by decide

/-! ### Prefix codes (V5 to V8) -/

/-- The counts of V5. -/
theorem test_varlen :
    ([([0], 0), ([1, 0, 0, 0], 1), ([1, 1, 0, 0, 0], 2), ([1, 1, 0, 0, 1], 3), ([1, 0, 1, 0, 0, 0], 4),
      ([1, 0, 1, 0, 1, 1], 7), ([1, 1, 1, 0, 0, 0, 0], 8), ([1, 0, 0, 1, 0, 0, 0, 0], 16),
      ([1, 1, 1, 1, 1, 1, 1, 1, 1, 1, 1], 255)] : List (List Nat × Nat)).all (fun p =>
        ends (runElement (.field .varlen) (bed .compressedSetup .cmdBegin p.1)) fun t =>
          t.work.count == p.2 && t.bitpos == p.1.length) = true := by decide

/-- V7: three symbols over an alphabet of eight; four symbols under either tree; E11 and a symbol past the alphabet. -/
theorem test_simple_codes :
    ends (readPrefixCode 8 (bed .compressedSetup .cmdBegin [1, 0, 0, 1, 0, 1, 1, 1, 1, 1, 1, 0, 1]))
      (fun t => t.work.lens == [0, 0, 0, 0, 0, 2, 1, 2] && t.bitpos == 13) = true ∧
    ends (readPrefixCode 4 (bed .compressedSetup .cmdBegin [1, 0, 1, 1, 1, 1, 0, 1, 1, 0, 0, 0, 1]))
      (fun t => t.work.lens == [3, 3, 2, 1]) = true ∧
    stops (readPrefixCode 8 (bed .compressedSetup .cmdBegin [1, 0, 1, 0, 0, 1, 1, 0, 1, 1])) .formatSimpleHuffmanSame 10 =
      true ∧
    stops (readPrefixCode 5 (bed .compressedSetup .cmdBegin [1, 0, 1, 0, 0, 1, 1, 0, 0, 0])) .formatSimpleHuffmanAlphabet 7 =
      true := by decide

/-- V6 and V8: lengths 1, 1 over four symbols under the code-length code of one symbol; a code-length code of no symbol. -/
theorem test_complex_codes :
    ends (readPrefixCode 4 (bed .compressedSetup .cmdBegin
        ([0, 0] ++ [1, 1, 1, 0] ++ [0, 0, 0, 0, 0, 0, 0, 0, 0, 0, 0, 0, 0, 0, 0, 0] ++
          [0, 0, 0, 0, 0, 0, 0, 0, 0, 0, 0, 0, 0, 0, 0, 0, 0, 0])))
      (fun t => t.work.lens == [1, 1, 0, 0]) = true ∧
    stops (readPrefixCode 8 (bed .compressedSetup .cmdBegin ([1, 1] ++ List.replicate 30 0))) .formatClSpace 32 = true := by
  decide

/-- V8: 17(7), 17(7) is 10 zeros, then 64 more; 16(3), 16(0) is six eights, then 13 more. -/
theorem test_repeats :
    (let s := { bed .compressedSetup .cmdBegin [1, 1, 1, 1] with
        work := { Work.idle with
          alphabet := 256, cl := List.replicate 17 0 ++ [1] ++ [1], lens := List.replicate 256 0, rep := 10, symbol := 10 } }
    next (exec .clsym17 s) fun t => t.work.symbol == 74 && t.work.rep == 74 && t.bitpos == 4) = true ∧
    (let s := { bed .compressedSetup .cmdBegin [0, 0, 0] with
        work := { Work.idle with
          alphabet := 64, cl := List.replicate 16 0 ++ [1, 1], lens := List.replicate 64 0, rep := 6, repLen := 8,
          prevLen := 8, symbol := 6, space := 32768 } }
    next (exec .clsym16 s) fun t =>
      t.work.symbol == 19 && t.work.space == 32768 - 13 * 128 && (t.work.lens.take 20).drop 6 == List.replicate 13 8 ++ [0])
      = true := by decide

/-! ### Contexts and context maps (V13) -/

theorem test_contexts :
    contextId .lsb6 0x41 0 = 1 ∧ contextId .lsb6 0xFF 0 = 63 ∧ contextId .msb6 0x41 0 = 16 ∧ contextId .msb6 0xFF 0 = 63 ∧
    contextId .utf8 0x20 0x61 = 11 ∧ contextId .utf8 0x61 0x20 = 56 ∧ contextId .utf8 0x41 0x41 = 50 ∧
    contextId .utf8 0xC3 0xA9 = 3 ∧ contextId .utf8 0xA9 0xC3 = 3 ∧ contextId .signed 0 0 = 0 ∧
    contextId .signed 0xFF 0xFF = 63 ∧ contextId .signed 0x80 0x10 = 34 := by decide

theorem test_move_to_front :
    moveToFront (List.range 256) [1, 1, 0] = [1, 0, 0] ∧ moveToFront (List.range 256) [2, 2, 1, 0] = [2, 1, 2, 2] ∧
    moveToFront (List.range 256) [3, 0, 1, 1] = [3, 3, 0, 3] ∧ moveToFront (List.range 256) [0, 0, 0] = [0, 0, 0] := by
  decide

/-- E19: a run of 65 past a map of 64; and one of 64 that fills it. -/
theorem test_context_map_run :
    (let s := { bed .compressedSetup .cmdBegin [1, 0, 0, 0, 0, 0] with
        work := { Work.idle with lens := [0, 0, 0, 0, 0, 0, 1], rlemax := 6, mapSize := 64 } }
    raises (exec (.cmapsymRun 6) s) .formatContextMapRepeat 6) = true ∧
    (let s := { bed .compressedSetup .cmdBegin [0, 0, 0, 0, 0, 0] with
        work := { Work.idle with lens := [0, 0, 0, 0, 0, 0, 1], rlemax := 6, mapSize := 64 } }
    next (exec (.cmapsymRun 6) s) fun t => t.work.map == List.replicate 64 0) = true := by decide

/-! ### Block switches (V9) -/

theorem test_block_switch :
    ([(2, 0, 1, 0, 1), (2, 0, 1, 1, 1), (2, 1, 0, 1, 0), (3, 2, 0, 0, 0), (3, 2, 0, 1, 0), (3, 2, 0, 2, 0), (3, 2, 0, 4, 2)]
      : List (Nat × Nat × Nat × Nat × Nat)).all (fun (n, b, p, t, r) =>
        ends (countSymbol .L { bed .commandLoop .insert [1, 1] with
            trackerL := {
              nbltypes := n, btype := b, blen := 0, prevType := p
              htreeBtype := (List.replicate (n + 2) 0).set t 1, htreeBlen := [1] } })
          fun u => u.trackerL.btype == r && u.trackerL.prevType == b && u.trackerL.blen == 3 && u.bitpos == 2) = true := by
  decide

/-! ### Commands and distances (V10 to V12) -/

/-- Command symbols with every extra bit 1: the symbol, insertLen, copyLen, distCtx, implicit, the bits taken. -/
theorem test_commands :
    ([(0, 0, 2, 0, true, 0), (7, 0, 9, 3, true, 0), (40, 5, 2, 0, true, 0), (63, 9, 9, 3, true, 1), (64, 0, 11, 3, true, 1),
      (127, 9, 69, 3, true, 5), (128, 0, 2, 0, false, 0), (129, 0, 3, 1, false, 0), (130, 0, 4, 2, false, 0),
      (153, 3, 3, 1, false, 0), (192, 0, 11, 3, false, 1), (256, 13, 2, 0, false, 2), (320, 13, 11, 3, false, 3),
      (384, 0, 101, 3, false, 5), (448, 193, 2, 0, false, 6), (512, 13, 101, 3, false, 7), (576, 193, 11, 3, false, 7),
      (640, 193, 101, 3, false, 11), (703, 22594 + 2 ^ 24 - 1, 2118 + 2 ^ 24 - 1, 3, false, 48)]
      : List (Nat × Nat × Nat × Nat × Bool × Nat)).all (fun (c, ins, cop, ctx, imp, n) =>
        next (exec .cmd { bed .commandLoop .cmdBegin (List.replicate 48 1) with
            trackerI := .single, htreeI := [(List.replicate 704 0).set c 1], remaining := 2 ^ 25, mlen := 2 ^ 25 })
          fun t => t.insertLen == ins && t.copyLen == cop && t.distCtx == ctx && t.implicitD0 == imp && t.bitpos == n &&
            t.cmdPhase == if ins = 0 then .distance else .insert) = true := by decide +kernel

/-- E15: one literal more than is left. -/
theorem test_command_overrun :
    raises (exec .cmd { bed .commandLoop .cmdBegin [0] with
      trackerI := .single, htreeI := [(List.replicate 704 0).set 146 1], remaining := 1 }) .formatBlockLength1 0 = true := by
  decide +kernel

/-- A literal under a context map: p1 = 0x41 gives context 1 under LSB6, whose tree is the second. -/
theorem test_literal :
    next (exec .lit { bed .commandLoop .insert [1] with
        trackerL := .single, cmode := [.lsb6], cmapL := (List.replicate 64 0).set 1 1,
        htreeL := [[1], List.replicate 0x7A 0 ++ [1, 1]], out := Memory.ofBytes (octets [0x41]), remaining := 5,
        insertLen := 2 })
      (fun t => t.out.bytes == octets [0x41, 0x7B] && t.remaining == 4 && t.insertLen == 1 && t.bitpos == 1) = true := by
  decide +kernel

/-- The short codes against the reset ring. -/
theorem test_short_distances :
    (List.range 16).map (shortDistance State.reset.distRing) = [4, 11, 15, 16, 3, 5, 2, 6, 1, 7, 10, 12, 9, 13, 8, 14] ∧
    shortDistance { d0 := 1, d1 := 4, d2 := 11, d3 := 15 } 6 = -1 ∧
    raises (exec .dist4 { bed .commandLoop .distance [0] with
      distRing := { d0 := 1, d1 := 4, d2 := 11, d3 := 15 }, trackerD := .single, cmapD := [0, 0, 0, 0],
      htreeD := [[0, 0, 0, 0, 1]] }) .formatDistance 0 = true := by decide

/-- Direct and long codes: NPOSTFIX, NDIRECT, the code, the extra bits' value, the distance. -/
theorem test_long_distances :
    ([(0, 0, 16, 1, 2), (0, 0, 17, 0, 3), (0, 0, 18, 3, 8), (0, 0, 38, 1028, 9217), (0, 0, 63, 2 ^ 24 - 1, 67108860),
      (0, 4, 20, 1, 6), (1, 2, 18, 0, 3), (1, 2, 19, 0, 4), (2, 4, 20, 5, 25), (3, 120, 519, 2 ^ 24 - 1, 536871000)]
      : List (Nat × Nat × Nat × Nat × Nat)).all (fun (np, nd, c, e, d) => longDistance np nd c e == d) = true ∧
    next (exec .dist { bed .commandLoop .distance [0, 0, 1, 0, 0, 0, 0, 0, 0, 0, 1, 0] with
        trackerD := .single, cmapD := [0, 0, 0, 0], htreeD := [(List.replicate 64 0).set 38 1] })
      (fun t => t.distance == 9217 && t.dcode == 38 && t.bitpos == 12 && t.cmdPhase == .copy) = true := by decide

/-- W1 and V12: a copy that overlaps itself; the ring after it. -/
theorem test_copy :
    next (exec .copy { bed .commandLoop .copy [0] with
        out := Memory.ofBytes (octets [0x41]), distance := 1, copyLen := 5, remaining := 9, dcode := 16 })
      (fun t => t.out.bytes == octets [0x41, 0x41, 0x41, 0x41, 0x41, 0x41] && t.remaining == 4 && t.cmdPhase == .cmdBegin &&
        t.distRing == { d0 := 1, d1 := 4, d2 := 11, d3 := 15 }) = true ∧
    raises (exec .copy { bed .commandLoop .copy [0] with
      out := Memory.ofBytes (octets [0x41]), distance := 1, copyLen := 5, remaining := 4 }) .formatBlockLength2 0 = true := by
  decide

/-! ### The static dictionary (V14) -/

theorem test_transforms :
    applyTransform (octets [0x74, 0x69, 0x6D, 0x65]) 2 = some (octets [0x20, 0x74, 0x69, 0x6D, 0x65, 0x20]) ∧
    applyTransform (octets [0x74, 0x69, 0x6D, 0x65]) 3 = some (octets [0x69, 0x6D, 0x65]) ∧
    applyTransform (octets [0x74, 0x69, 0x6D, 0x65]) 4 = some (octets [0x54, 0x69, 0x6D, 0x65, 0x20]) ∧
    applyTransform (octets [0x74, 0x69, 0x6D, 0x65]) 12 = some (octets [0x74, 0x69, 0x6D]) ∧
    applyTransform (octets [0x74, 0x69, 0x6D, 0x65]) 44 = some (octets [0x54, 0x49, 0x4D, 0x45]) ∧
    applyTransform (octets [0xC3, 0xA9, 0x74, 0x65]) 9 = some (octets [0xC3, 0x89, 0x74, 0x65]) ∧
    applyTransform (octets [0xE3, 0x81, 0x82, 0x61]) 44 = some (octets [0xE3, 0x81, 0x87, 0x41]) ∧
    applyTransform (octets [0x77, 0x6F, 0x72, 0x64]) 34 = some [] ∧
    applyTransform (octets [0x61, 0x62, 0xC3]) 44 = some (octets [0x41, 0x42, 0xC3]) := by decide +kernel

theorem test_shifts :
    shiftFirst (octets [0x61]) 1 = octets [0x62] ∧ shiftAll (octets [0xC3, 0xA9]) 1 = octets [0xC3, 0xAA] ∧
    shiftFirst (octets [0x62]) 0xFFFF = octets [0x61] := by decide +kernel

/-- E17, E18 and DICTIONARY_NOT_SET. -/
theorem test_dictionary_ends :
    raises (exec .dict { bed .commandLoop .copy [0] with distance := 1, copyLen := 3, remaining := 9 }) .formatDictionary 0 =
      true ∧
    raises (exec .dict { bed .commandLoop .copy [0] with distance := 123905, copyLen := 4, remaining := 9 })
      .formatTransform 0 = true ∧
    raises (exec .dict { bed .commandLoop .copy [0] with
      distance := 1, copyLen := 4, remaining := 9, params := { Params.default with builtinPresent := false } })
      .dictionaryNotSet 0 = true := by decide +kernel

/-- The last word: copyLen 24, wordId 3871 is index 31 and transform 120 (V14). -/
theorem test_dictionary_bucket :
    next (exec .dictbucket24 { bed .commandLoop .copy [0] with work := { Work.idle with wordId := 3871 } })
      (fun t => t.work.tid == 120 && t.work.word.length == 24) = true := by decide +kernel

/-- SETUP where every count is 1 and every code has one symbol (the header of E15: literal 0x41, command 146, distance 6). -/
theorem test_setup :
    next (exec .setup (bed .compressedSetup .cmdBegin
      (List.replicate 13 0 ++ [1, 0, 0, 0] ++ [1, 0, 0, 0, 0, 0, 1, 0] ++ [1, 0, 0, 0] ++ [0, 1, 0, 0, 1, 0, 0, 1, 0, 0] ++
        [1, 0, 0, 0] ++ [0, 1, 1, 0, 0, 0])))
      (fun t => t.state == .commandLoop && t.cmdPhase == .cmdBegin && t.bitpos == 49 &&
        t.htreeL == [singleton 256 0x41] && t.htreeI == [singleton 704 146] && t.htreeD == [singleton 64 6] &&
        t.cmapL == List.replicate 64 0 && t.trackerL.btype == 0 && t.trackerL.prevType == 1) = true := by decide +kernel

/-! ### For every obligation with hypotheses, a state and operands that meet them -/

/-- A state of the command loop with one block type in each category and codes of one symbol: literal 0x41, command 146,
distance 16. -/
def loop (ph : CmdPhase) (w : List Nat) : State :=
  { bed .commandLoop ph w with
    trackerL := .single, trackerI := .single, trackerD := .single, cmode := [.lsb6]
    ntreesL := 1, cmapL := List.replicate 64 0, ntreesD := 1, cmapD := [0, 0, 0, 0]
    htreeL := [singleton 256 0x41], htreeI := [singleton 704 146], htreeD := [singleton 64 16]
    remaining := 5, mlen := 5, insertLen := 1, copyLen := 4, distance := 1 }

/-- The same before a literal of two bits that the code spells, 0x42 of the symbols 0x40 to 0x43. -/
def spelled (ph : CmdPhase) (w : List Nat) : State :=
  { loop ph w with htreeL := [List.replicate 64 0 ++ [2, 2, 2, 2] ++ List.replicate 188 0] }

theorem next_spec {a : Answer State} {p : State → Bool} (h : next a p = true) : ∃ t, a = .next t ∧ p t = true := by
  cases a with
  | next t => exact ⟨t, rfl, h⟩
  | fault _ => cases h
  | refused _ => cases h

theorem ends_spec {r : Res State} {p : State → Bool} (h : ends r p = true) : ∃ t, r = .ok t ∧ p t = true := by
  cases r with
  | ok t => exact ⟨t, rfl, h⟩
  | error _ => cases h

/-- The code in force gives `sym` a codeword of `l` bits, and they exist. -/
def spellsB (s : State) (code : Option PrefixCode) (sym l : Nat) : Bool :=
  decide (s.has l) && (code.bind fun T => (codeword T sym).map Prod.fst) == some l

theorem spells_of {s : State} {code : Option PrefixCode} {sym l : Nat} (h : spellsB s code sym l = true) :
    s.spells code sym l := by
  simp only [spellsB, Bool.and_eq_true, decide_eq_true_eq, beq_iff_eq, Option.bind_eq_some_iff, Option.map_eq_some_iff] at h
  obtain ⟨h, T, rfl, ⟨_, c⟩, hc, rfl⟩ := h
  exact ⟨h, T, c, rfl, hc⟩

theorem witness_StepRunsTheEnabledOperation :
    decode State.reset.place State.reset.window = .ok (.streamHeader, 0) ∧ State.reset.state = .streamHeader ∧
    (bed .metaBlockHeader .cmdBegin []).state = .metaBlockHeader ∧ (bed .metadata .cmdBegin []).state = .metadata ∧
    (bed .uncompressedBody .cmdBegin []).state = .uncompressedBody ∧
    (bed .compressedSetup .cmdBegin []).state = .compressedSetup ∧
    (loop .cmdBegin []).state = .commandLoop ∧ (loop .cmdBegin []).cmdPhase = .cmdBegin ∧
    (loop .insert []).cmdPhase = .insert ∧ (loop .distance []).cmdPhase = .distance ∧ (loop .copy []).cmdPhase = .copy ∧
    { loop .copy [] with out := [(0, 0)] }.distance ≤ { loop .copy [] with out := [(0, 0)] }.maxDist ∧
    (loop .copy []).maxDist < (loop .copy []).distance ∧ (bed .done .copy []).state = .done ∧
    (bed .error .copy []).state = .error := by decide

theorem witness_ElementReadRunsItsRow :
    decode (.field .varlen) (bed .compressedSetup .cmdBegin [0]).window = .ok (.varlen0, 1) ∧ .varlen0 ∉ operations ∧
    (Ctx.field .varlen).readIn .compressedSetup .cmdBegin = true ∧
    (Ctx.field .varlen).readIn .commandLoop .cmdBegin = false ∧
    decode (.symbol .literal (singleton 256 65)) [] = .ok (.litB 65, 0) ∧
    (Ctx.symbol .literal (singleton 256 65)).readIn .commandLoop .insert = true ∧
    (Ctx.symbol .literal (singleton 256 65)).readIn .commandLoop .copy = false := by decide

theorem witness_EncodeThenDecode :
    encode (.symbol .codeLength [1, 2, 2]) .clsym2 = some [true, true] ∧ validCode 3 [1, 2, 2] = true ∧
    encode (.field .mlen) (.mlenNibble 15) = some [true, true, true, true] ∧ (Instr.mlenNibble 15).wellFormed = true := by
  decide

theorem witness_DecodeThenEncode : decode (.symbol .codeLength [1, 2, 2]) [true, true, false] = .ok (.clsym2, 2) := by
  decide

theorem witness_DecodedInstructionsAreWellFormed :
    (Ctx.symbol (.distance 120) (singleton 520 519)).proper = true ∧
    decode (.symbol (.distance 120) (singleton 520 519)) [] = .ok (.distLong 519, 0) ∧
    (Ctx.padding .final 7).proper = true ∧
    decode (.padding .final 7) (List.replicate 7 true) = .ok (.pad .final 7 127, 7) := by decide +kernel

theorem witness_ValidCodesDecodeEveryPattern :
    validCode 3 [1, 2, 2] = true ∧ validCode 3 [0, 1, 0] = true ∧ 15 ≤ (List.replicate 15 true).length := by decide

theorem witness_ACallStartsInTheResetState :
    { State.reset with dict := some [] }.dict = some [] ∧ Memory.size [] ≠ Config.dictSize ∧
    (let s := { State.reset with params := { Params.default with emptyInputOk := true } }
    s.state = .streamHeader ∧ s.dict = none ∧ s.inp.size = 0 ∧ s.params.emptyInputOk = true) := by decide

/-- A state inside a command loop that meets the invariant. -/
theorem sound_loop : Sound (loop .insert [1, 1, 1, 1, 1, 1, 1, 1]) where
  inputCanonical := by decide
  outputCanonical := by decide
  dictCanonical := fun _ h => by cases h
  cursorInInput := by decide
  ringValid := by decide
  errorRecorded := by decide
  workIdle := rfl
  atStart := fun h => by cases h
  streamOpen := fun _ _ _ => ⟨by decide, by decide, fun _ h => by cases h⟩
  inMetadata := fun h => by cases h
  inUncompressed := fun h => by cases h
  inSetup := fun h => by cases h
  inLoop := fun _ => by decide +kernel

theorem loop_steps : next (step (loop .insert [1, 1, 1, 1, 1, 1, 1, 1])) (fun t => t.state == .commandLoop) = true := by
  decide +kernel

theorem witness_StepKeepsTheInvariant : ∃ s t, Sound s ∧ step s = .next t :=
  let ⟨t, h, _⟩ := next_spec loop_steps
  ⟨_, t, sound_loop, h⟩

theorem witness_SoundStatesNeverFault : ∃ s, Sound s := ⟨_, sound_loop⟩

theorem witness_EveryDecodeEnds : ∃ s, Sound s ∧ s.params.largeWindow = false := ⟨_, sound_loop, rfl⟩

theorem witness_BytesNotReadDoNotMatter : ∃ s t, Sound s ∧ s.params.trailing = .ignore ∧
    ¬(s.inp.size = 0 ∧ s.params.emptyInputOk = true) ∧ step s = .next t ∧ t.state ≠ .error :=
  let ⟨t, h, p⟩ := next_spec loop_steps
  ⟨_, t, sound_loop, rfl, by decide, h, fun e => by simp [e] at p⟩

theorem witness_OnlyPermittedTransitions : ∃ s t, Sound s ∧ step s = .next t :=
  let ⟨t, h, _⟩ := next_spec loop_steps
  ⟨_, t, sound_loop, h⟩

theorem witness_InputIsNeverWrittenNorRewound : ∃ i s t, exec i s = .next t ∧ s.bitpos ≤ s.inputBits :=
  let s := bed .compressedSetup .cmdBegin [1, 0, 0, 0]
  let ⟨t, h, _⟩ := next_spec (a := exec .varlen1 s) (p := fun _ => true) (by decide)
  ⟨_, s, t, h, by decide⟩

theorem witness_OutputOnlyGrowsAtItsEnd : (∃ s t, exec .varlen0 s = .next t) ∧
    ∃ s t, exec (.litB 0x41) s = .next t ∧ 0 < s.pos :=
  let s := bed .compressedSetup .cmdBegin [0]
  let r := { loop .insert [0] with out := [(0, 7)] }
  let ⟨t, h, _⟩ := next_spec (a := exec .varlen0 s) (p := fun _ => true) (by decide)
  let ⟨u, g, _⟩ := next_spec (a := exec (.litB 0x41) r) (p := fun _ => true) (by decide +kernel)
  ⟨⟨s, t, h⟩, r, u, g, by decide⟩

theorem copy_runs :
    next (exec .copy { loop .copy [0] with out := [(0, 7)], dcode := 16 }) (fun t => t.state == .commandLoop) = true := by
  decide +kernel

theorem witness_OnlyCopyWritesTheDistanceRing : (∃ s t, exec .copy s = .next t ∧ t.state ≠ .error ∧ s.dcode ≠ 0) ∧
    ∃ i s t, exec i s = .next t ∧ i ≠ .copy :=
  let s := bed .compressedSetup .cmdBegin [0]
  let ⟨t, h, p⟩ := next_spec copy_runs
  let ⟨u, g, _⟩ := next_spec (a := exec .varlen0 s) (p := fun _ => true) (by decide)
  ⟨⟨_, t, h, fun e => by simp [e] at p, by decide⟩, .varlen0, s, u, g, by decide⟩

/-- `varlen0` is none of the instructions that a clause sets apart; each of the three that are named in one runs too. -/
theorem witness_RegistersAreWrittenOnlyByTheirOwn :
    next (exec .varlen0 (bed .compressedSetup .cmdBegin [0])) (fun t => t.state != .error) = true ∧
    Instr.varlen0.row = .field .varlen (pattern [0]) 0 0 ∧
    next (exec .cmd (loop .cmdBegin [0])) (fun t => t.state != .error) = true ∧
    next (exec .lit (loop .insert [0])) (fun t => t.state != .error) = true ∧
    next (exec .dist (loop .distance [0])) (fun t => t.state != .error) = true := by decide +kernel

theorem witness_ErrorAndDoneAreFinal :
    (bed .error .copy []).state = .error ∧ (bed .done .copy []).state = .done := by decide

theorem witness_RaisingSavesTheRecordAlone :
    ∃ s t, exec .metadataReserved1 s = .next t ∧ t.state = .error :=
  let s := bed .metadata .cmdBegin [1]
  let ⟨t, h, p⟩ := next_spec (a := exec .metadataReserved1 s) (p := fun t => t.state == .error) (by decide)
  ⟨s, t, h, by simpa using p⟩

/-- Eight bits of eight fit, nine do not. -/
theorem witness_ReadBitsTakesTheLowBitFirst :
    (let s := bed .metadata .cmdBegin [1]
    s.bitpos + 8 ≤ 8 * s.inp.size ∧ 8 * s.inp.size < s.bitpos + 9 ∧ s.inp.read (0 / 8) = some 1) := by decide

theorem witness_AlignmentChecksThePadding :
    (let s := { bed .metadata .cmdBegin [1, 0, 0, 0, 0, 0, 0, 0, 1] with bitpos := 1 }
    let r := { s with params := { Params.default with trailing := .reject } }
    s.bitpos ≤ s.inputBits ∧ s.inp.field 1 7 = 0 ∧ s.params.trailing = .ignore ∧ r.params.trailing = .reject ∧
    8 * ((r.bitpos + 7) / 8) < r.inputBits) ∧
    (let s := { bed .metadata .cmdBegin [1] with
      bitpos := 8, params := { Params.default with trailing := .reject } }
    s.bitpos ≤ s.inputBits ∧ 8 * ((s.bitpos + 7) / 8) = s.inputBits) ∧
    (let s := { bed .metadata .cmdBegin [1, 0, 0, 0, 0, 0, 0, 1] with bitpos := 1 }
    s.bitpos ≤ s.inputBits ∧ s.inp.field 1 7 ≠ 0) := by decide

/-- Of two bytes, one is left. -/
theorem witness_ReadBytesEqualsEightBitReads :
    (let s := { bed .metadata .cmdBegin [1, 0, 0, 0, 0, 0, 0, 0, 1] with bitpos := 8 }
    s.inp.wf = true ∧ s.bitpos % 8 = 0 ∧ s.bitpos / 8 + 1 ≤ s.inp.size ∧ s.inp.size < s.bitpos / 8 + 2) := by decide

theorem witness_RingBufferHoldsTheLastBytes :
    (let s := { loop .copy [] with out := Memory.ofBytes (octets [1, 2, 3]) }
    0 < s.pos ∧ s.pos - s.windowSize ≤ 0 ∧ 2 < s.pos ∧ 3 ≤ min s.pos s.maxBackward) := by decide

/-- One bit left, four left, seven left; the marker's two cases. -/
theorem witness_WindowSizeRowsSetTheWindow :
    (Instr.wbits16, 1, 16) ∈ [(Instr.wbits16, 1, 16)] ∧ (bed .streamHeader .cmdBegin []).state = .streamHeader ∧
    { bed .streamHeader .cmdBegin [0] with bitpos := 7 }.has 1 ∧ { bed .streamHeader .cmdBegin [0] with bitpos := 4 }.has 4 ∧
    { bed .streamHeader .cmdBegin [0] with bitpos := 1 }.has 7 ∧ State.reset.params.largeWindow = false ∧
    { Params.default with largeWindow := true }.largeWindow = true := by decide

theorem witness_MetaBlockHeaderRowsSetTheFlags :
    (let s := { bed .metaBlockHeader .cmdBegin [0] with bitpos := 7 }
    s.state = .metaBlockHeader ∧ s.has 1) ∧
    (let s := { bed .metaBlockHeader .cmdBegin [0] with bitpos := 6 }
    s.state = .metaBlockHeader ∧ s.has 2 ∧ { s with bitpos := s.bitpos + 2, isLast := true, isLastEmpty := true }.endsCleanly)
    := by decide

theorem witness_LengthRowsSetMlenAndTheBody :
    (let s := { bed .metaBlockHeader .cmdBegin [0] with bitpos := 4, work := { Work.idle with nibbles := 5, index := 4 } }
    s.state = .metaBlockHeader ∧ s.has 4 ∧ s.has 1 ∧ s.ringReady ∧
    ¬(s.work.index + 1 = s.work.nibbles ∧ 4 < s.work.nibbles ∧ (1 : Nat) = 0) ∧
    (s.work.index + 1 = s.work.nibbles ∧ 4 < s.work.nibbles ∧ (0 : Nat) = 0)) := by decide

theorem witness_MetadataAndPaddingRows :
    (let s := { bed .metadata .cmdBegin [0] with work := { Work.idle with skb := 2, index := 1 } }
    s.state = .metadata ∧ s.has 1 ∧ s.has 2 ∧ s.has 8 ∧ ¬(s.work.index + 1 = s.work.skb ∧ 1 < s.work.skb ∧ (1 : Nat) = 0) ∧
    (s.work.index + 1 = s.work.skb ∧ 1 < s.work.skb ∧ (0 : Nat) = 0)) ∧
    (bed .uncompressedBody .cmdBegin [0]).has 7 ∧ (bed .uncompressedBody .cmdBegin [0]).state = .uncompressedBody ∧
    (bed .metaBlockHeader .cmdBegin []).has 0 ∧ (bed .metaBlockHeader .cmdBegin []).state = .metaBlockHeader := by decide

/-- Eleven bits for the longest count. -/
theorem witness_SetupFieldRowsSetTheirFields :
    (let s := { bed .compressedSetup .cmdBegin [0, 0, 0, 0, 0, 0, 0, 0, 0] with bitpos := 5 }
    s.state = .compressedSetup ∧ s.has 11 ∧ s.has 5 ∧ s.has 1) := by decide

theorem witness_PrefixCodeHeaderRows :
    (let s := { bed .compressedSetup .cmdBegin [0] with
      bitpos := 4, work := { Work.idle with alphabet := 4, syms := [3, 2, 1, 0], index := 17 } }
    s.state = .compressedSetup ∧ s.has 4 ∧ s.has 1 ∧ s.work.syms.length = 4 ∧ s.work.syms.Nodup ∧
    (∀ y, y ∈ s.work.syms → y < s.work.alphabet) ∧
    [1, 2, 3, 4, 0, 5, 17, 6, 16, 7, 8, 9, 10, 11, 12, 13, 14, 15][s.work.index]? = some 15) := by decide

/-- Four symbols of two bits: all different; two the same; the first one past an alphabet of three. -/
theorem witness_SimpleCodeRowsReadTheirSymbols :
    (Instr.nsym4, 4) ∈ [(Instr.nsym4, 4)] ∧
    (let s := { bed .compressedSetup .cmdBegin [0, 0, 1, 1, 0, 1, 1, 0, 0, 0] with work := { Work.idle with alphabet := 4 } }
    s.state = .compressedSetup ∧ bitlength (s.work.alphabet - 1) = 2 ∧ s.has 10 ∧
    (List.range 4).map (fun j => s.inp.field (2 + 2 * j) 2) = [3, 2, 1, 0] ∧ [3, 2, 1, 0].Nodup) ∧
    (let s := { bed .compressedSetup .cmdBegin [0, 0, 1, 1, 1, 1, 1, 0, 0, 0] with work := { Work.idle with alphabet := 4 } }
    s.has 10 ∧ (List.range 4).map (fun j => s.inp.field (2 + 2 * j) 2) = [3, 3, 1, 0] ∧ ¬[3, 3, 1, 0].Nodup) ∧
    (let s := { bed .compressedSetup .cmdBegin [0, 0, 1, 1, 0, 1, 1, 0, 0, 0] with work := { Work.idle with alphabet := 3 } }
    s.has 10 ∧ bitlength (s.work.alphabet - 1) = 2 ∧ s.work.alphabet ≤ s.inp.field 2 2) := by decide

theorem witness_CodeLengthSymbolRows : ∃ s : State, s.state = .compressedSetup ∧ codeLengthRows[15]? = some .clsym15 ∧
    s.spells (some s.work.cl) 15 1 :=
  ⟨{ bed .compressedSetup .cmdBegin [1] with work := { Work.idle with cl := [1] ++ List.replicate 14 0 ++ [1, 0, 0] } },
    by decide, by decide, spells_of (by decide)⟩

/-- A run that fills the alphabet, and one that passes it. -/
theorem witness_RepeatRowsFillTheLengths : ∃ s : State, s.state = .compressedSetup ∧ s.spells (some s.work.cl) 16 1 ∧
    s.has (1 + 2) ∧ s.work.symbol + 6 ≤ s.work.alphabet ∧ s.inp.field (s.bitpos + 1) 2 = 3 ∧ s.work.rep = 0 ∧
    { s with work := { s.work with symbol := 1 } }.work.alphabet < 1 + 6 :=
  ⟨{ bed .compressedSetup .cmdBegin [0, 1, 1] with
      work := { Work.idle with alphabet := 6, cl := List.replicate 16 0 ++ [1, 1], prevLen := 8, repLen := 8 } },
    by decide, spells_of (by decide), by decide, by decide, by decide, by decide, by decide⟩

theorem witness_BlockTypeAndCountRows : ∃ s : State, s.state = .commandLoop ∧
    s.spells (some s.trackerI.htreeBtype) 257 1 ∧ (blockCountRows .I)[25]? = some (.blen25 .I) ∧
    s.spells (some s.trackerI.htreeBlen) 25 0 ∧ s.has (0 + blockCountExtra.getD 25 0) :=
  ⟨{ bed .commandLoop .cmdBegin (List.replicate 24 1) with
      trackerI := { Tracker.single with
        nbltypes := 256, htreeBtype := [1] ++ List.replicate 256 0 ++ [1], htreeBlen := singleton 26 25 } },
    by decide, spells_of (by decide +kernel), by decide, spells_of (by decide), by decide⟩

/-- A run that fills a map of three, and one that passes a map of two. -/
theorem witness_ContextMapSymbolRows : ∃ s : State, s.state = .compressedSetup ∧ s.spells (some s.work.lens) 1 1 ∧
    s.has (1 + 1) ∧ s.spells (some s.work.lens) 0 1 ∧ s.work.map.length + 3 ≤ s.work.mapSize ∧
    s.inp.field (s.bitpos + 1) 1 = 1 ∧ (2 : Nat) < s.work.map.length + 3 :=
  ⟨{ bed .compressedSetup .cmdBegin [1, 1] with work := { Work.idle with lens := [1, 1], rlemax := 1, mapSize := 3 } },
    by decide, spells_of (by decide), by decide, spells_of (by decide), by decide, by decide,
    by decide⟩

/-- Literal 0x42 has two bits; it ends the insert, and then the meta-block. -/
theorem witness_LiteralRowAppendsItsByte : ∃ s : State, s.state = .commandLoop ∧ s.cmdPhase = .insert ∧
    s.spells s.literalCode (0x42 : Byte).toNat 2 ∧ (s.withLiteral 0x42 2).insertLen = 0 ∧
    (s.withLiteral 0x42 2).remaining = 0 ∧ (s.withLiteral 0x42 2).canResume ∧
    ({ s with insertLen := 2 }.withLiteral 0x42 2).insertLen ≠ 0 :=
  ⟨{ spelled .insert [1, 0] with remaining := 1 }, by decide, by decide,
    spells_of (by decide +kernel), by decide, by decide, by decide, by decide⟩

/-- Command 146 inserts two bytes: all that is left, or one more; command 128 inserts none. -/
theorem witness_CommandRowsSetTheLengths :
    (∃ s : State, s.state = .commandLoop ∧ s.cmdPhase = .cmdBegin ∧ commandRows[146 / 64]? = some .cmdCell2 ∧
      s.spells s.commandCode 146 0 ∧ (s.withCommand 146 0).bitpos ≤ s.inputBits ∧ (s.withCommand 146 0).insertLen ≠ 0 ∧
      (s.withCommand 146 0).insertLen ≤ s.remaining ∧ { s with remaining := 1 }.remaining < (s.withCommand 146 0).insertLen) ∧
    (∃ s : State, s.spells s.commandCode 128 0 ∧ (s.withCommand 128 0).insertLen = 0 ∧ (s.withCommand 128 0).canResume) :=
  ⟨⟨{ loop .cmdBegin [] with remaining := 2 }, by decide, by decide, rfl,
      spells_of (by decide +kernel), by decide, by decide, by decide, by decide⟩,
    { loop .cmdBegin [] with htreeI := [singleton 704 128] }, spells_of (by decide +kernel), by decide,
    by decide⟩

theorem witness_LengthCodeRows :
    (let s := loop .cmdBegin (List.replicate 24 1)
    s.state = .commandLoop ∧ s.cmdPhase = .cmdBegin ∧ insertLengthRows[23]? = some .inscode23 ∧
    s.has (insertExtra.getD 23 0) ∧ copyLengthRows[23]? = some .copycode23 ∧ s.has (copyExtra.getD 23 0)) := by decide

/-- Code 4 is d0 - 1: 3 at reset, 0 where d0 is 1. -/
theorem witness_ShortDistanceRows : ∃ s : State, s.state = .commandLoop ∧ s.cmdPhase = .distance ∧
    shortDistanceRows[4]? = some .dist4 ∧ (shortDistances s.distRing)[4]? = some 3 ∧ s.spells s.distanceCode 4 0 ∧
    (shortDistances { s.distRing with d0 := 1 })[4]? = some 0 :=
  ⟨{ loop .distance [] with htreeD := [singleton 64 4] }, by decide, by decide, by decide, by decide,
    spells_of (by decide), by decide⟩

theorem witness_DirectAndLongDistanceRows :
    (∃ s : State, s.state = .commandLoop ∧ s.cmdPhase = .distance ∧ s.spells s.distanceCode 16 0 ∧ 16 + s.ndirect ≤ 16 ∧
      s.has (0 + (1 + (16 - s.ndirect - 16) / 2 ^ (s.npostfix + 1)))) ∧
    (∃ s : State, s.spells s.distanceCode 519 0 ∧ s.ndirect = 120 ∧ s.npostfix = 3 ∧
      s.has (0 + (1 + (519 - s.ndirect - 16) / 2 ^ (s.npostfix + 1)))) :=
  ⟨⟨loop .distance [1], by decide, by decide, spells_of (by decide), by decide, by decide⟩,
    { loop .distance (List.replicate 24 1) with ndirect := 120, npostfix := 3, htreeD := [singleton 520 519] },
    spells_of (by decide +kernel), by decide, by decide, by decide⟩

theorem witness_TransformRowsRewriteTheWord :
    (loop .copy []).state = .commandLoop ∧ (loop .copy []).cmdPhase = .copy ∧ transformRows[120]? = some .transform120 ∧
    (transforms[120]?).isSome = true := by decide

theorem dict_ready (ph : CmdPhase) (w : List Nat) : (loop ph w).dictReady := ⟨rfl, fun _ h => by cases h⟩

theorem witness_DictionaryBucketRows :
    (loop .copy []).state = .commandLoop ∧ (loop .copy []).cmdPhase = .copy ∧ (loop .copy []).dictReady ∧
    dictBucketRows[4 - 4]? = some .dictbucket4 ∧ dictBucketRows[24 - 4]? = some .dictbucket24 :=
  ⟨by decide, by decide, dict_ready _ _, by decide, by decide⟩

/-- The nine cases, with the last bit needed the last one of the input, and one bit fewer. -/
theorem witness_StreamHeaderReadsTheWindowSize :
    (let s := { bed .streamHeader .cmdBegin [0] with bitpos := 7 }
    s.state = .streamHeader ∧ s.dict = none ∧ ¬(s.inp.size = 0 ∧ s.params.emptyInputOk = true) ∧ s.has 1 ∧
    s.inp.field 7 1 = 0 ∧ ¬{ s with bitpos := 8 }.has 1) ∧
    (let s := { bed .streamHeader .cmdBegin [0, 0, 0, 0, 1, 1, 0, 0] with bitpos := 4 }
    s.has 4 ∧ s.inp.field 4 1 = 1 ∧ s.inp.field 5 3 ≠ 0) ∧
    (let s := fun a b => { bed .streamHeader .cmdBegin [0, 1, 0, 0, 0, a, b, 0] with bitpos := 1 }
    (s 0 0).has 7 ∧ (s 0 0).inp.field 1 1 = 1 ∧ (s 0 0).inp.field 2 3 = 0 ∧ (s 0 0).inp.field 5 3 = 0 ∧
    (s 1 0).inp.field 5 3 = 1 ∧ (s 0 1).inp.field 5 3 = 2) ∧
    (let s := { bed .streamHeader .cmdBegin [0, 0, 0, 0, 0, 1, 0, 0] with bitpos := 5 }
    s.has 1 ∧ ¬s.has 4 ∧ s.inp.field 5 1 = 1) ∧
    (let s := { bed .streamHeader .cmdBegin [0, 0, 1, 0, 0, 0, 0, 0] with bitpos := 2 }
    s.has 4 ∧ ¬s.has 7 ∧ s.inp.field 2 1 = 1 ∧ s.inp.field 3 3 = 0) := by decide

/-- Not last and last; four nibbles of zero; five nibbles with the last one 1 and with the last one 0. -/
theorem witness_HeaderOfADataMetaBlock :
    (let s := { bed .metaBlockHeader .cmdBegin (List.replicate 23 0 ++ [1]) with bitpos := 4 }
    s.state = .metaBlockHeader ∧ s.peek 1 = 0 ∧ s.inp.field 5 2 = 0 ∧ 7 + 16 + 1 ≤ s.inputBits ∧ s.ringReady ∧
    s.inp.field 23 1 = 1) ∧
    (let s := bed .metaBlockHeader .cmdBegin ([1, 0, 1, 0] ++ List.replicate 16 0 ++ [1, 0, 0, 0])
    s.peek 2 = 1 ∧ s.inp.field 2 2 = 1 ∧ 4 + 20 ≤ s.inputBits ∧ 16 ^ 4 ≤ s.inp.field 4 20) ∧
    (let s := bed .metaBlockHeader .cmdBegin ([1, 0, 1, 0] ++ List.replicate 20 0)
    s.peek 2 = 1 ∧ s.inp.field 2 2 = 1 ∧ 4 + 20 ≤ s.inputBits ∧ s.inp.field 4 20 < 16 ^ 4) := by decide

theorem witness_HeaderWithoutData :
    (let s := { bed .metaBlockHeader .cmdBegin [0, 0, 0, 0, 1, 1, 0, 0] with bitpos := 4 }
    let t := { s with bitpos := s.bitpos + 2, isLast := true, isLastEmpty := true }
    s.state = .metaBlockHeader ∧ s.has 2 ∧ s.peek 2 = 3 ∧ t.endsCleanly) ∧
    (let s := { bed .metaBlockHeader .cmdBegin [0, 0, 0, 0, 1, 1, 0, 1] with bitpos := 4 }
    let t := { s with bitpos := s.bitpos + 2, isLast := true, isLastEmpty := true }
    s.peek 2 = 3 ∧ t.peek t.padBits ≠ 0) ∧
    (let s := { bed .metaBlockHeader .cmdBegin [0, 0, 0, 0, 1, 1, 0, 0, 1] with
      bitpos := 4, params := { Params.default with trailing := .reject } }
    let t := { s with bitpos := s.bitpos + 2, isLast := true, isLastEmpty := true }
    s.peek 2 = 3 ∧ t.peek t.padBits = 0 ∧ t.bitpos + t.padBits < s.inputBits) ∧
    (let s := { bed .metaBlockHeader .cmdBegin [0, 0, 0, 0, 0, 0, 1, 1] with bitpos := 5 }
    s.has 3 ∧ s.peek 3 = 6) ∧
    (let s := { bed .metaBlockHeader .cmdBegin [0, 0, 0, 0, 1, 0, 1, 1] with bitpos := 4 }
    s.has 4 ∧ s.peek 4 = 13) := by decide

/-- The reserved bit; two bytes with the last one zero; padding that is not zero; one byte to skip, present and absent. -/
theorem witness_MetadataSkipsItsBytes :
    (let s := { bed .metadata .cmdBegin [0, 0, 0, 0, 0, 0, 0, 1] with bitpos := 7 }
    s.state = .metadata ∧ s.has 1 ∧ s.peek 1 = 1) ∧
    (let s := bed .metadata .cmdBegin ([0, 0, 1] ++ List.replicate 16 0)
    s.peek 1 = 0 ∧ s.inp.field 1 2 = 2 ∧ 3 + 16 ≤ s.inputBits ∧ s.inp.field 3 16 < 256 ^ 1) ∧
    (let s := bed .metadata .cmdBegin [0, 0, 0, 1]
    s.peek 1 = 0 ∧ s.inp.field 1 2 = 0 ∧ 3 ≤ s.inputBits ∧ s.inp.field 3 5 ≠ 0) ∧
    (let s := bed .metadata .cmdBegin ([0, 1, 0] ++ List.replicate 21 0)
    s.peek 1 = 0 ∧ s.inp.field 1 2 = 1 ∧ s.inp.field 11 5 = 0 ∧ 16 + 8 * 1 ≤ s.inputBits ∧
    { s with bitpos := 24, work := .idle }.endsCleanly) ∧
    (let s := bed .metadata .cmdBegin ([0, 1, 0] ++ List.replicate 13 0)
    s.peek 1 = 0 ∧ s.inp.field 1 2 = 1 ∧ s.inp.field 11 5 = 0 ∧ s.inputBits < 16 + 8 * 1) := by decide

/-- One byte to copy, present and absent; padding that is not zero. -/
theorem witness_UncompressedCopiesItsBytes :
    (let s := { bed .uncompressedBody .cmdBegin (List.replicate 16 0) with bitpos := 5, mlen := 1 }
    s.state = .uncompressedBody ∧ s.inp.wf = true ∧ s.bitpos ≤ s.inputBits ∧ s.inp.field 5 3 = 0 ∧
    8 + 8 * s.mlen ≤ s.inputBits ∧ { s with bitpos := 16, remaining := 0 }.endsCleanly) ∧
    (let s := { bed .uncompressedBody .cmdBegin (List.replicate 8 0) with bitpos := 5, mlen := 1 }
    s.inp.field 5 3 = 0 ∧ s.inputBits < 8 + 8 * s.mlen) ∧
    (let s := { bed .uncompressedBody .cmdBegin [0, 0, 0, 0, 0, 0, 0, 1] with bitpos := 5, mlen := 1 }
    s.inp.field 5 3 ≠ 0) := by decide

/-- The state a computation ends in. -/
def endOf (r : Res State) : State :=
  match r with
  | .ok t => t
  | .error _ => .reset

theorem endOf_spec {r : Res State} (h : ends r (fun _ => true) = true) : r = .ok (endOf r) := by
  cases r with
  | ok t => rfl
  | error _ => cases h

/-- The state before SETUP of the smallest header, with the largest command symbol. -/
def smallest : State :=
  { bed .compressedSetup .cmdBegin (List.replicate 7 1 ++ List.replicate 13 0 ++ [1, 0, 0, 0] ++
      List.replicate 8 1 ++ [1, 0, 0, 0] ++ [1, 1, 1, 1, 1, 1, 0, 1, 0, 1] ++ [1, 0, 0, 0] ++ List.replicate 6 1) with
    bitpos := 7 }

/-- The parts of a SETUP, one after the other. -/
theorem witness_SetupInParts : ∃ s a b c d e f g h : State, s.state = .compressedSetup ∧ blockHeader .L s = .ok a ∧
    blockHeader .I a = .ok b ∧ blockHeader .D b = .ok c ∧ distanceParameters c = .ok d ∧ contextModes d = .ok e ∧
    contextMap (64 * e.trackerL.nbltypes) e = .ok f ∧
    contextMap (4 * f.trackerD.nbltypes) { f with ntreesL := f.work.count + 1, cmapL := f.work.map } = .ok g ∧
    treeGroups { g with ntreesD := g.work.count + 1, cmapD := g.work.map } = .ok h :=
  ⟨smallest, _, _, _, _, _, _, _, _, rfl, endOf_spec (by decide +kernel), endOf_spec (by decide +kernel),
    endOf_spec (by decide +kernel), endOf_spec (by decide +kernel), endOf_spec (by decide +kernel),
    endOf_spec (by decide +kernel), endOf_spec (by decide +kernel), endOf_spec (by decide +kernel)⟩

/-- A block header of one type, and one of two types with the last block-count code, its 24 extra bits the last of the
input. -/
theorem witness_BlockHeaders :
    (let s := bed .compressedSetup .cmdBegin [0]
    runElement (.field .varlen) s = .ok (endOf (runElement (.field .varlen) s)) ∧
    (endOf (runElement (.field .varlen) s)).work.count + 1 = 1) ∧
    (let s := { bed .compressedSetup .cmdBegin
      ([1, 1, 1, 1, 1] ++ [1, 0, 0, 0] ++ [1, 0, 0, 0, 0, 0] ++ [1, 0, 0, 0, 1, 0, 0, 1, 1] ++ List.replicate 24 1) with
      bitpos := 5 }
    let a := endOf (runElement (.field .varlen) s)
    let b := endOf (readPrefixCode 4 a)
    let d := endOf (readPrefixCode 26 b)
    runElement (.field .varlen) s = .ok a ∧ a.work.count + 1 = 2 ∧ AllocSite.blockTypeTrees ∉ s.params.allocFail ∧
    readPrefixCode 4 a = .ok b ∧ readPrefixCode 26 b = .ok d ∧ decodeSymbol d.work.lens d.window = .ok (25, 0) ∧
    d.bitpos + (0 + blockCountExtra.getD 25 0) = d.inputBits) := by decide +kernel

/-- Three groups of one code each, over three alphabets; the parameters and one context mode before them. -/
theorem witness_TreeGroups :
    (let s := bed .compressedSetup .cmdBegin [1, 1, 1, 1, 1, 1, 1, 1]
    s.has 6 ∧ AllocSite.contextModes ∉ s.params.allocFail ∧ { s with bitpos := 6, trackerL := .single }.has (2 * 1)) ∧
    ∃ (s : State) (x : Nat → State), AllocSite.treeGroups ∉ s.params.allocFail ∧ x 0 = s ∧ s.ntreesL = 1 ∧
      s.trackerI.nbltypes = 1 ∧ s.ntreesD = 1 ∧
      ∀ j, j < 3 →
        readPrefixCode (if j < 1 then 256 else if j < 2 then 704 else s.distanceAlphabet) (x j) = .ok (x (j + 1)) :=
  let s := { smallest with bitpos := 20, ntreesL := 1, trackerI := .single, ntreesD := 1 }
  let A := fun j => if j < 1 then 256 else if j < 2 then 704 else s.distanceAlphabet
  let x : Nat → State := fun n => Nat.rec s (fun j t => endOf (readPrefixCode (A j) t)) n
  have h : (List.range 3).all (fun j => ends (readPrefixCode (A j) (x j)) fun _ => true) = true := by decide +kernel
  ⟨by decide, s, x, by decide, rfl, rfl, rfl, rfl, fun j hj =>
    endOf_spec (List.all_eq_true.mp h j (List.mem_range.mpr hj))⟩

/-- A complex code of four symbols, its code-length code of two symbols and of one, and with a run of zeros in it. -/
theorem witness_ComplexCode :
    (let vs := [1, 1]
    let items := [(1, 0), (2, 0), (2, 0)]
    let cl := (List.range 18).map fun y => (((codeLengthOrder.drop 0).zip vs).lookup y).getD 0
    (∀ j, j < vs.length → share32 (vs.take j) < 32) ∧ share32 vs = 32 ∧
    (∀ p, p ∈ items → (codeword cl p.1).isSome = true ∧ p.2 < 2 ^ repeatExtra p.1) ∧
    (∀ j, j < items.length →
      (Lengths.ofSymbols (items.take j)).lens.length < 4 ∧ kraft (Lengths.ofSymbols (items.take j)).lens < 32768) ∧
    (Lengths.ofSymbols items).lens = [1, 2, 2] ∧ kraft [1, 2, 2] = 32768) ∧
    (let vs := [1] ++ List.replicate 17 0
    let cl := (List.range 18).map fun y => (((codeLengthOrder.drop 0).zip vs).lookup y).getD 0
    (∀ j, j < vs.length → share32 (vs.take j) < 32) ∧ vs.length = 18 - 0 ∧ (vs.filter (· ≠ 0)).length = 1 ∧
    (codeword cl 1).isSome = true ∧ (Lengths.ofSymbols [(1, 0), (1, 0)]).lens = [1, 1] ∧ kraft [1, 1] = 32768) ∧
    (let vs := [0, 0, 0, 1, 0, 0, 0, 0, 0, 0, 0, 0, 0, 0, 0]
    vs.length = 18 - 3 ∧ (Lengths.ofSymbols [(1, 0), (17, 7), (1, 0)]).lens = [1] ++ List.replicate 10 0 ++ [1] ∧
    (Lengths.ofSymbols [(2, 0), (16, 0)]).lens = [2, 2, 2, 2]) := by decide +kernel

/-- The first of them as the bits of an input, which end with it. -/
theorem witness_ComplexCodeBits :
    (let s := bed .compressedSetup .cmdBegin ([0, 0] ++ [1, 1, 1, 0] ++ [1, 1, 1, 0] ++ [0, 1, 1])
    let cl := [0, 1, 1] ++ List.replicate 15 0
    let bits := bitsOf 2 0 ++ ([1, 1].map fun v =>
        pattern ([[0, 0], [1, 1, 1, 0], [1, 1, 0], [0, 1], [1, 0], [1, 1, 1, 1]].getD v [])).flatten ++
      ([(1, 0), (2, 0), (2, 0)].map fun p => (codewordBits cl p.1).getD [] ++ bitsOf (repeatExtra p.1) p.2).flatten
    s.has bits.length ∧ s.inp.bits s.bitpos bits.length = bits) := by decide +kernel

theorem test_complex_code_is_read_whole :
    (let s := bed .compressedSetup .cmdBegin ([0, 0] ++ [1, 1, 1, 0] ++ [1, 1, 1, 0] ++ [0, 1, 1])
    ends (readPrefixCode 4 s) fun t => t.work.lens == [1, 2, 2, 0] && t.bitpos == 13) = true := by decide +kernel

/-- The largest command symbol. -/
theorem witness_SetupWritesEveryTable :
    (let s := smallest
    s.state = .compressedSetup ∧ s.params.allocFail = [] ∧ s.has 49 ∧ s.inp.field 7 13 = 0 ∧ s.inp.field 20 4 = 1 ∧
    s.inp.field 32 4 = 1 ∧ s.inp.field 46 4 = 1 ∧ s.inp.field 36 10 = 703) := by decide

/-- A command that inserts all that is left, one that inserts nothing, one that inserts too much, one that is cut off. -/
theorem witness_CommandOperation :
    (let s := { loop .cmdBegin [] with remaining := 2 }
    s.state = .commandLoop ∧ s.cmdPhase = .cmdBegin ∧ countSymbol .I s = .ok s ∧ s.commandCode = some (singleton 704 146) ∧
    decodeSymbol (singleton 704 146) s.window = .ok (146, 0) ∧ (s.withCommand 146 0).bitpos ≤ s.inputBits ∧
    (s.withCommand 146 0).insertLen = 2) ∧
    (let s := { loop .cmdBegin [] with htreeI := [singleton 704 128] }
    decodeSymbol (singleton 704 128) s.window = .ok (128, 0) ∧ (s.withCommand 128 0).insertLen = 0 ∧
    (s.withCommand 128 0).canResume) ∧
    decodeSymbol [1, 1] (loop .cmdBegin []).window = .error (.endOfInput 0) := by decide +kernel

theorem witness_LiteralOperation :
    (let s := { spelled .insert [1, 0] with remaining := 1 }
    s.bitpos ≤ s.inputBits ∧
    s.state = .commandLoop ∧ s.cmdPhase = .insert ∧ countSymbol .L s = .ok s ∧ s.cmode[s.trackerL.btype]? = some .lsb6 ∧
    s.cmapL[64 * s.trackerL.btype + contextId .lsb6 (s.lastByte 1) (s.lastByte 2)]? = some 0 ∧
    s.htreeL[0]? = some (List.replicate 64 0 ++ [2, 2, 2, 2] ++ List.replicate 188 0) ∧
    decodeSymbol (List.replicate 64 0 ++ [2, 2, 2, 2] ++ List.replicate 188 0) s.window = .ok (0x42, 2) ∧
    (s.withLiteral 0x42 2).insertLen = 0 ∧ (s.withLiteral 0x42 2).canResume ∧
    ({ s with insertLen := 2 }.withLiteral 0x42 2).insertLen ≠ 0 ∧
    decodeSymbol (List.replicate 64 0 ++ [2, 2, 2, 2] ++ List.replicate 188 0) { s with bitpos := 7 }.window =
      .error (.endOfInput 1)) := by decide +kernel

/-- The implicit distance; the last short code; the first and the last direct code; the first long code and the last. -/
theorem witness_DistanceOperation :
    { loop .distance [] with implicitD0 := true }.implicitD0 = true ∧
    (let s := fun k => { loop .distance [1] with htreeD := [singleton 64 k] }
    (s 15).bitpos ≤ (s 15).inputBits ∧
    (s 15).state = .commandLoop ∧ (s 15).cmdPhase = .distance ∧ (s 15).implicitD0 = false ∧ countSymbol .D (s 15) = .ok (s 15) ∧
    (s 15).cmapD[4 * (s 15).trackerD.btype + (s 15).distCtx]? = some 0 ∧ (s 15).htreeD[0]? = some (singleton 64 15) ∧
    decodeSymbol (singleton 64 15) (s 15).window = .ok (15, 0) ∧ (shortDistances (s 15).distRing)[15]? = some 14 ∧
    (shortDistances { (s 15).distRing with d0 := 3 })[8]? = some 0 ∧
    decodeSymbol (singleton 64 16) (s 16).window = .ok (16, 0) ∧ 16 + (s 16).ndirect ≤ 16 ∧ (s 16).has (0 + 1)) ∧
    (let s := { loop .distance (List.replicate 24 1) with ndirect := 120, npostfix := 3 }
    16 < 16 + s.ndirect ∧ 135 < 16 + s.ndirect ∧ 16 + s.ndirect ≤ 519 ∧ s.has (0 + (1 + (519 - s.ndirect - 16) / 2 ^ (3 + 1))))
    := by decide +kernel

/-- Distance 1 with one byte produced; all that is left copied, and one byte too many. -/
theorem witness_CopyRepeatsTheOutput :
    (let s := { loop .copy [] with out := [(0, 7)], copyLen := 5 }
    s.state = .commandLoop ∧ s.cmdPhase = .copy ∧ s.out.wf = true ∧ s.distance = ((1 : Nat) : Int) ∧ 1 ≤ min s.pos s.maxBackward ∧
    s.copyLen ≤ s.remaining ∧ { s with isLast := false, remaining := 0 }.canResume ∧
    { s with remaining := 4 }.remaining < s.copyLen) := by decide

/-- A word of four bytes under the last transform and one past it, of three bytes and of 25; no dictionary. -/
theorem witness_DictionaryOperation :
    (let s := loop .copy []
    s.state = .commandLoop ∧ s.cmdPhase = .copy ∧ s.maxDist < s.distance ∧ s.work = .idle) ∧
    (loop .copy []).dictReady ∧
    { loop .copy [] with params := { Params.default with builtinPresent := false } }.dictAvailable = false ∧
    { loop .copy [] with copyLen := 3 }.copyLen < 4 ∧ 24 < { loop .copy [] with copyLen := 25 }.copyLen ∧
    (let s := { loop .copy [] with distance := 123904 }
    (s.distance - s.maxDist - 1).toNat / 2 ^ dictBits s.copyLen = 120) ∧
    (let s := { loop .copy [] with distance := 123905 }
    (s.distance - s.maxDist - 1).toNat / 2 ^ dictBits s.copyLen = 121) :=
  ⟨by decide, dict_ready _ _, by decide, by decide, by decide, by decide, by decide⟩

theorem witness_BlockSwitchIsLazy :
    (loop .insert []).trackerL.nbltypes < 2 ∧
    (let k := { Tracker.single with nbltypes := 2, blen := 0, htreeBtype := [1, 1, 0, 0], htreeBlen := singleton 26 0 }
    let s := { loop .insert [1, 0, 1, 1, 0, 0, 0, 0] with trackerL := k }
    2 ≤ k.nbltypes ∧ k.blen = 0 ∧ { k with blen := 1 }.blen ≠ 0 ∧ decodeSymbol k.htreeBtype s.window = .ok (1, 1) ∧
    decodeSymbol k.htreeBlen (s.advance 1).window = .ok (0, 0) ∧ s.has (1 + 0 + blockCountExtra.getD 0 0)) := by decide

theorem witness_PrefixCodesReadAreValid : (∃ s t, readPrefixCode 8 s = .ok t) ∧
    ∃ s t, readPrefixCode 4 s = .ok t ∧ t.work.hskip ≠ 1 :=
  let s := bed .compressedSetup .cmdBegin [1, 0, 0, 1, 0, 1, 1, 1, 1, 1, 1, 0, 1]
  let r := bed .compressedSetup .cmdBegin ([0, 0, 1, 1, 1, 0] ++ List.replicate 34 0)
  let ⟨t, h, _⟩ := ends_spec (r := readPrefixCode 8 s) (p := fun _ => true) (by decide)
  let ⟨u, g, p⟩ := ends_spec (r := readPrefixCode 4 r) (p := fun u => decide (u.work.hskip ≠ 1)) (by decide)
  ⟨⟨s, t, h⟩, r, u, g, of_decide_eq_true p⟩

theorem witness_AllocationSitesRaiseTheirKinds : ∃ s t : State, AllocSite.contextModes ∈ s.params.allocFail ∧
    AllocSite.treeGroups ∈ s.params.allocFail ∧ AllocSite.blockTypeTrees ∈ s.params.allocFail ∧
    AllocSite.contextMap ∈ s.params.allocFail ∧ AllocSite.ringBuffer1 ∉ s.params.allocFail ∧
    AllocSite.ringBuffer2 ∈ s.params.allocFail ∧ AllocSite.ringBuffer1 ∈ [AllocSite.ringBuffer1] ∧ s.pos = 0 ∧
    runElement (.field .varlen) s = .ok t ∧ 1 ≤ t.work.count :=
  let s := { bed .compressedSetup .cmdBegin [1, 0, 0, 0] with
    params := { Params.default with allocFail := [.contextModes, .treeGroups, .blockTypeTrees, .contextMap, .ringBuffer2] } }
  let ⟨t, h, p⟩ := ends_spec (r := runElement (.field .varlen) s) (p := fun t => decide (1 ≤ t.work.count)) (by decide)
  ⟨s, t, by decide, by decide, by decide, by decide, by decide, by decide, by decide, by decide, h, of_decide_eq_true p⟩

theorem witness_MoveToFrontKeepsTheRange : (256 ≤ 256 ∧ ∀ t, t ∈ [255, 0] → t < 256) ∧
    (List.range 256)[255]? = some 255 := by decide +kernel

/-- A map of one tree; one of two trees and five entries with RLEMAX 1: a zero, a run of three, a one, and then the
move-to-front; its last bit is the last of the input. -/
theorem witness_ContextMaps :
    (let s := bed .compressedSetup .cmdBegin [0]
    runElement (.field .varlen) s = .ok (endOf (runElement (.field .varlen) s)) ∧
    AllocSite.contextMap ∉ s.params.allocFail ∧ (endOf (runElement (.field .varlen) s)).work.count = 0) ∧
    (let s := { bed .compressedSetup .cmdBegin ([1, 1] ++ [1, 0, 0, 0] ++ [1, 0, 0, 0, 0] ++ [1, 0, 0, 1, 0, 0, 1, 0, 0, 1] ++
      [0] ++ [1, 0, 1] ++ [1, 1] ++ [1]) with bitpos := 2 }
    let v := endOf (runElement (.field .varlen) s)
    let a := endOf (runElement (.field .rlemax) v)
    let b := endOf (readPrefixCode 3 a)
    let items := [(0, 0), (1, 1), (2, 0)]
    let bits := (items.map fun p =>
      (codewordBits b.work.lens p.1).getD [] ++ if p.1 ≤ 1 then bitsOf p.1 p.2 else []).flatten ++ [true]
    runElement (.field .varlen) s = .ok v ∧ v.work.count = 1 ∧ runElement (.field .rlemax) v = .ok a ∧
    a.work.rlemax = 1 ∧ readPrefixCode (2 + 1) a = .ok b ∧ b.bitpos + bits.length = b.inputBits - 4 ∧
    b.inp.bits b.bitpos bits.length = bits ∧ (∀ p, p ∈ items → (codeword b.work.lens p.1).isSome = true) ∧
    ends (contextMap 5 s) (fun t => t.work.map == [0, 0, 0, 0, 1]) = true) := by decide +kernel

theorem witness_ContextFollowsTheLastTwoBytes :
    255 < 256 ∧ (loop .insert []).out.wf = true ∧ (loop .insert []).pos = 0 := by decide

/-- A lead byte of each width as the last one, or with one byte too few after it. -/
theorem witness_FoldingKeepsTheLength :
    (octets [0xDF])[0]? = some (0xDF : Byte) ∧ (0xC0 : Byte) ≤ 0xDF ∧ (0xDF : Byte) < 0xE0 ∧ (octets [0xDF]).length ≤ 0 + 1 ∧
    (octets [0xE0, 0x80])[0]? = some (0xE0 : Byte) ∧ (octets [0xE0, 0x80]).length ≤ 0 + 2 ∧ (0xE0 : Byte) < 0xF0 ∧
    (octets [0xF7, 0x80, 0x80])[0]? = some (0xF7 : Byte) ∧ (octets [0xF7, 0x80, 0x80]).length ≤ 0 + 3 ∧
    (0xF0 : Byte) ≤ 0xF7 ∧ (0xF7 : Byte) < 0xF8 ∧ (0xBF : Byte) < 0xC0 ∧ (0x7F : Byte) < 0x80 ∧ (0x80 : Byte) < 0xC0 ∧
    (0xF8 : Byte) ≤ 0xFF ∧ (0xFFFF : BitVec 16).toNat ≥ 0x8000 ∧ (0x7FFF : BitVec 16).toNat < 0x8000 := by decide

theorem witness_EmptyWordsNeedHighTransformIds :
    4 ≤ (octets [0x77, 0x6F, 0x72, 0x64]).length ∧ applyTransform (octets [0x77, 0x6F, 0x72, 0x64]) 34 = some [] ∧
    applyTransform (octets [1, 2, 3, 4, 5, 6, 7, 8, 9]) 64 = some [] := by decide +kernel

end Sys2Proof.Tests
end

section
/-! SUPPORT. Conditions on what a computation gives when it completes. For the shared operations the weakest such condition is a
rewriting rule; loops and elements have a rule each for a condition that every turn, or every row, keeps. -/

namespace Sys2Proof.Machine

/-- If the computation completes, what it gives satisfies `P`. -/
def Ensures {α : Type} (P : α → Prop) (r : Res α) : Prop := ∀ a, r = .ok a → P a

section
variable {α β : Type} {P : α → Prop}

theorem Ensures.mono {Q : α → Prop} {r : Res α} (h : Ensures P r) (hpq : ∀ a, P a → Q a) : Ensures Q r :=
  fun a ha => hpq a (h a ha)

/-- A computation in two parts, by a condition between them. -/
theorem Ensures.bind {Q : β → Prop} {r : Res α} {f : α → Res β} (h : Ensures P r) (hf : ∀ a, P a → Ensures Q (f a)) :
    Ensures Q (r >>= f) := fun _ hb =>
  let ⟨a, ha, hb⟩ := Res.bind_eq_ok.mp hb
  hf a (h a ha) _ hb

@[simp] theorem ensures_ok (a : α) : Ensures P (.ok a) ↔ P a :=
  ⟨fun h => h a rfl, fun h b hb => by cases hb; exact h⟩

@[simp] theorem ensures_error (e : Stop) : Ensures P (.error e) := fun _ h => by cases h

@[simp] theorem ensures_raise (k : ErrorKind) (m : String) (s : State) : Ensures P (raise k m s) := ensures_error _

@[simp] theorem ensures_true (r : Res α) : Ensures (fun _ => True) r := fun _ _ => trivial

@[simp] theorem ensures_bind {P : β → Prop} (r : Res α) (f : α → Res β) :
    Ensures P (r >>= f) ↔ Ensures (fun a => Ensures P (f a)) r :=
  ⟨fun h a ha b hb => h b (Res.bind_eq_ok.mpr ⟨a, ha, hb⟩), fun h => Ensures.bind h fun _ => id⟩

@[simp] theorem ensures_ite (c : Prop) [Decidable c] (r q : Res α) :
    Ensures P (if c then r else q) ↔ (c → Ensures P r) ∧ (¬c → Ensures P q) := by
  split <;> simp [*]

end

section
variable {P : State → Prop}

@[simp] theorem ensures_skip (n : Nat) (s : State) : Ensures P (skip n s) ↔ (s.has n → P (s.advance n)) := by
  simp [skip]

@[simp] theorem ensures_readBits {P : Nat × State → Prop} (n : Nat) (s : State) :
    Ensures P (readBits n s) ↔ (s.has n → P (s.peek n, s.advance n)) := by
  simp [readBits]

@[simp] theorem ensures_padding (k : PadKind) (n v : Nat) (s : State) :
    Ensures P (padding k n v s) ↔ (s.has n → v = 0 → P (s.advance n)) := by
  simp [padding]

@[simp] theorem ensures_consume (code : Option PrefixCode) (sym : Nat) (s : State) :
    Ensures P (consume code sym s) ↔ ∀ l, s.spells code sym l → P (s.advance l) := by
  constructor
  · exact fun h l hl => h _ (consume_spells hl)
  · intro h t ht
    obtain ⟨T, l, c, hT, hc, hl, rfl⟩ := consume_ok ht
    exact h l ⟨hl, T, c, hT, hc⟩

@[simp] theorem ensures_allocate (site : AllocSite) (k : ErrorKind) (s : State) :
    Ensures P (allocate site k s) ↔ (site ∉ s.params.allocFail → P s) := by
  simp [allocate]

/-- A condition that every turn of a loop keeps. -/
theorem Ensures.iterate {f : State → Res State} (hf : ∀ s, P s → Ensures P (f s)) (n : Nat) {s : State} (hs : P s) :
    Ensures P (iterate n f s) := fun _ h => iterate_induction (fun s t hs ht => hf s hs t ht) hs h

/-- What every row ensures, reading an element ensures. -/
theorem Ensures.runElement {c : Ctx} {s : State} (h : ∀ i, Ensures P (elem i s)) : Ensures P (runElement c s) :=
  fun t ht =>
  let ⟨i, _, _, he⟩ := runElement_ok ht
  h i t he

theorem Ensures.runSymbol {a : Alphabet} {code : Option PrefixCode} {s : State} (h : ∀ i, Ensures P (elem i s)) :
    Ensures P (runSymbol a code s) := fun t ht =>
  let ⟨_, i, _, _, _, he⟩ := runSymbol_ok ht
  h i t he

end
end Sys2Proof.Machine
end

section
/-! SUPPORT. An operation that completes does not leave the block in state Error: a row keeps the decoder state, or chooses the
next one among the others (10_state.md R20, R21). -/

namespace Sys2Proof.Machine

/-- The decode has not failed. -/
abbrev State.unfailed (s : State) : Prop := s.state ≠ .error

/-- The two states have the same decoder state. -/
abbrev State.sameState (s t : State) : Prop := t.state = s.state

theorem Ensures.unfailed {s : State} {r : Res State} (h : Ensures s.sameState r) (hs : s.unfailed) :
    Ensures State.unfailed r := h.mono fun _ ht => by rwa [State.unfailed, ht]

/-! ### Shared operations and rows that keep the decoder state -/

section
variable (s : State)

theorem skip_sameState (n : Nat) : Ensures s.sameState (skip n s) := (ensures_skip ..).mpr fun _ => rfl
theorem padding_sameState (k : PadKind) (n v : Nat) : Ensures s.sameState (padding k n v s) :=
  (ensures_padding ..).mpr fun _ _ => rfl
theorem copyBackward_sameState (d n : Nat) : Ensures s.sameState (copyBackward d n s) := fun t ht => by
  obtain ⟨bs, -, rfl⟩ := copyBackward_ok ht
  exact State.appendAll_state s bs

theorem lastHeader_sameState : Ensures s.sameState (lastHeader s) := by simp [lastHeader]
theorem notLastHeader_sameState : Ensures s.sameState (notLastHeader s) := by simp [notLastHeader]
theorem dataNibbles_sameState (n : Nat) : Ensures s.sameState (dataNibbles n s) := by simp [dataNibbles]
theorem lengthNibble_sameState (x : Nat) : Ensures s.sameState (lengthNibble x s) := by simp [lengthNibble]
theorem setSkipBytes_sameState (k : Nat) : Ensures s.sameState (setSkipBytes k s) := by simp [setSkipBytes]
theorem skipLengthByte_sameState (b : Nat) : Ensures s.sameState (skipLengthByte b s) := by simp [skipLengthByte]
theorem setCount_sameState (n v : Nat) : Ensures s.sameState (setCount n v s) := by simp [setCount]

theorem startSimple_sameState : Ensures s.sameState (startSimple s) := by simp [startSimple]
theorem startComplex_sameState (h : Nat) : Ensures s.sameState (startComplex h s) := by simp [startComplex]
theorem simpleSymbol_sameState : Ensures s.sameState (simpleSymbol s) := by simp [simpleSymbol]
theorem simpleSymbols_sameState (n : Nat) : Ensures s.sameState (simpleSymbols n s) := by
  have hturn (u : State) (hu : s.sameState u) : Ensures s.sameState (simpleSymbol u) :=
    (simpleSymbol_sameState u).mono fun _ hv => hv.trans hu
  refine (skip_sameState s 2).bind fun u hu => .bind (.iterate hturn n (by exact hu)) fun v hv => ?_
  split
  · split <;> simpa [assignSimple] using hv
  · exact ensures_raise _ _ _
theorem selectTree_sameState (b : Bool) : Ensures s.sameState (selectTree b s) := by simp [selectTree, assignSimple]
theorem codeLengthLength_sameState (n v : Nat) : Ensures s.sameState (codeLengthLength n v s) := by
  simp only [codeLengthLength, ensures_bind, ensures_skip]
  intro
  split <;> simp
theorem literalLength_sameState (c : Nat) : Ensures s.sameState (literalLength c s) := by simp [literalLength]
theorem repeatPrevious_sameState : Ensures s.sameState (repeatPrevious s) := by simp [repeatPrevious, repeatLength]
theorem repeatZero_sameState : Ensures s.sameState (repeatZero s) := by simp [repeatZero, repeatLength]

theorem setPostfix_sameState (k : Nat) : Ensures s.sameState (setPostfix k s) := by simp [setPostfix]
theorem setDirect_sameState (x : Nat) : Ensures s.sameState (setDirect x s) := by simp [setDirect]
theorem pushMode_sameState (m : CtxMode) : Ensures s.sameState (pushMode m s) := by simp [pushMode]
theorem setRlemax_sameState (n r : Nat) : Ensures s.sameState (setRlemax n r s) := by simp [setRlemax]
theorem mapZero_sameState : Ensures s.sameState (mapZero s) := by simp [mapZero]
theorem mapRun_sameState (v : Nat) : Ensures s.sameState (mapRun v s) := by simp [mapRun]
theorem mapValue_sameState (v : Nat) : Ensures s.sameState (mapValue v s) := by simp [mapValue]
theorem applyMoveToFront_sameState : Ensures s.sameState (applyMoveToFront s) := by simp [applyMoveToFront]
theorem switchType_sameState (c : Category) (t : Nat) : Ensures s.sameState (switchType c t s) := by
  simp [switchType, State.sameState]
theorem renewCount_sameState (c : Category) (k : Nat) : Ensures s.sameState (renewCount c k s) := by
  simp [renewCount, State.sameState]

theorem insertLength_sameState (i : Nat) : Ensures s.sameState (insertLength i s) := by simp [insertLength]
theorem copyLength_sameState (k : Nat) : Ensures s.sameState (copyLength k s) := by simp [copyLength]
theorem shortCode_sameState (code : Nat) : Ensures s.sameState (shortCode code s) := by simp [shortCode, resolve]
theorem directCode_sameState (code : Nat) : Ensures s.sameState (directCode code s) := by simp [directCode, resolve]
theorem longCode_sameState (code : Nat) : Ensures s.sameState (longCode code s) := by simp [longCode, resolve]

theorem wordOp_sameState (op : TransformOp) : Ensures s.sameState (wordOp op s) := by simp [wordOp]
theorem selectWord_sameState (len : Nat) : Ensures s.sameState (selectWord len s) := by
  simp only [selectWord]
  split <;> simp

/-! ### Rows that choose the next decoder state, whatever the one before -/

@[simp] theorem endOfMetaBlock_unfailed : Ensures State.unfailed (endOfMetaBlock s) := by simp [endOfMetaBlock]
@[simp] theorem setWindow_unfailed (n w : Nat) : Ensures State.unfailed (setWindow n w s) := by simp [setWindow]
@[simp] theorem lastEmptyHeader_unfailed : Ensures State.unfailed (lastEmptyHeader s) := by simp [lastEmptyHeader]
@[simp] theorem metadataNibbles_unfailed : Ensures State.unfailed (metadataNibbles s) := by simp [metadataNibbles]

theorem body_ne_error (b : Bool) : (if b then DecState.uncompressedBody else .compressedSetup) ≠ .error := by
  cases b <;> decide

@[simp] theorem dispatchBody_unfailed : Ensures State.unfailed (dispatchBody s) := by simp [dispatchBody, body_ne_error]
@[simp] theorem uncompressedFlag_unfailed (b : Bool) : Ensures State.unfailed (uncompressedFlag b s) := by
  simp [uncompressedFlag]
@[simp] theorem lastIsCompressed_unfailed : Ensures State.unfailed (lastIsCompressed s) := by simp [lastIsCompressed]

/-! ### Rows that never complete -/

theorem largeWindow_stops {P : State → Prop} (n : Nat) : Ensures P (largeWindow n s) := by simp [largeWindow]
theorem reservedBitSet_stops {P : State → Prop} : Ensures P (reservedBitSet s) := by simp [reservedBitSet]
theorem reservedTransform_stops {P : State → Prop} : Ensures P (reservedTransform s) := by simp [reservedTransform]

end

/-! ### Elements and operations -/

section
variable {s : State} (hs : s.unfailed)
include hs

@[simp] theorem postInsert_unfailed : Ensures State.unfailed (postInsert s) := by simp [postInsert, hs]
@[simp] theorem endOfCommand_unfailed : Ensures State.unfailed (endOfCommand s) := by simp [endOfCommand, hs]
theorem literal_unfailed (b : Byte) : Ensures State.unfailed (literal b s) := by simp [literal, hs]
theorem command_unfailed (cell sym : Nat) : Ensures State.unfailed (command cell sym s) := by
  simp [command, insertLength, copyLength, hs]

/-- An element's row that completes does not end in Error. -/
theorem elem_unfailed (i : Instr) : Ensures State.unfailed (elem i s) := by
  cases i with
  | streamHeader | mhdr | metadata | uncompressed | setup | cmd | lit | dist | copy | dict => exact ensures_error _
  | wbitsLarge => exact largeWindow_stops s _
  | wbits16 | wbits18 | wbits19 | wbits20 | wbits21 | wbits22 | wbits23 | wbits24 | wbits17 | wbits10 | wbits11 | wbits12
  | wbits13 | wbits14 | wbits15 => exact setWindow_unfailed s _ _
  | mhdrLast1Empty1 => exact lastEmptyHeader_unfailed s
  | mhdrLast1Empty0 => exact (lastHeader_sameState s).unfailed hs
  | mhdrLast0 => exact (notLastHeader_sameState s).unfailed hs
  | mnibbles0 | mnibbles1 | mnibbles2 => exact (dataNibbles_sameState s _).unfailed hs
  | mnibbles3 => exact metadataNibbles_unfailed s
  | mlenNibble x => exact (lengthNibble_sameState s x).unfailed hs
  | isuncompressed0 | isuncompressed1 => exact uncompressedFlag_unfailed s _
  | metadataReserved0 | cmapImtf0 => exact (skip_sameState s 1).unfailed hs
  | metadataReserved1 => exact reservedBitSet_stops s
  | mskipbytes0 | mskipbytes1 | mskipbytes2 | mskipbytes3 => exact (setSkipBytes_sameState s _).unfailed hs
  | mskiplenByte b => exact (skipLengthByte_sameState s b).unfailed hs
  | pad k n v => exact (padding_sameState s k n v).unfailed hs
  | varlen0 | varlen1 | varlenN1 | varlenN2 | varlenN3 | varlenN4 | varlenN5 | varlenN6 | varlenN7 =>
    exact (setCount_sameState s _ _).unfailed hs
  | npostfix0 | npostfix1 | npostfix2 | npostfix3 => exact (setPostfix_sameState s _).unfailed hs
  | ndirect x => exact (setDirect_sameState s x).unfailed hs
  | cmodeLsb6 | cmodeMsb6 | cmodeUtf8 | cmodeSigned => exact (pushMode_sameState s _).unfailed hs
  | cmapRlemax0 | cmapRlemax => exact (setRlemax_sameState s _ _).unfailed hs
  | cmapImtf1 => exact (applyMoveToFront_sameState s).unfailed hs
  | hskip1 => exact (startSimple_sameState s).unfailed hs
  | hskip0 | hskip2 | hskip3 => exact (startComplex_sameState s _).unfailed hs
  | nsym1 | nsym2 | nsym3 | nsym4 => exact (simpleSymbols_sameState s _).unfailed hs
  | treeselect0 | treeselect1 => exact (selectTree_sameState s _).unfailed hs
  | clcl0 | clcl3 | clcl4 | clcl2 | clcl1 | clcl5 => exact (codeLengthLength_sameState s _ _).unfailed hs
  | clsym0 | clsym1 | clsym2 | clsym3 | clsym4 | clsym5 | clsym6 | clsym7 | clsym8 | clsym9 | clsym10 | clsym11 | clsym12
  | clsym13 | clsym14 | clsym15 => exact (literalLength_sameState s _).unfailed hs
  | clsym16 => exact (repeatPrevious_sameState s).unfailed hs
  | clsym17 => exact (repeatZero_sameState s).unfailed hs
  | btype0 c | btype1 c | btypeT c => exact (switchType_sameState s c _).unfailed hs
  | blen0 c | blen1 c | blen2 c | blen3 c | blen4 c | blen5 c | blen6 c | blen7 c | blen8 c | blen9 c | blen10 c | blen11 c
  | blen12 c | blen13 c | blen14 c | blen15 c | blen16 c | blen17 c | blen18 c | blen19 c | blen20 c | blen21 c | blen22 c
  | blen23 c | blen24 c | blen25 c => exact (renewCount_sameState s c _).unfailed hs
  | cmapsym0 => exact (mapZero_sameState s).unfailed hs
  | cmapsymRun v => exact (mapRun_sameState s v).unfailed hs
  | cmapsymValue v => exact (mapValue_sameState s v).unfailed hs
  | litB b => exact literal_unfailed hs b
  | cmdCell0 sym | cmdCell1 sym | cmdCell2 sym | cmdCell3 sym | cmdCell4 sym | cmdCell5 sym | cmdCell6 sym | cmdCell7 sym
  | cmdCell8 sym | cmdCell9 sym | cmdCell10 sym => exact command_unfailed hs _ sym
  | inscode0 | inscode1 | inscode2 | inscode3 | inscode4 | inscode5 | inscode6 | inscode7 | inscode8 | inscode9 | inscode10
  | inscode11 | inscode12 | inscode13 | inscode14 | inscode15 | inscode16 | inscode17 | inscode18 | inscode19 | inscode20
  | inscode21 | inscode22 | inscode23 => exact (insertLength_sameState s _).unfailed hs
  | copycode0 | copycode1 | copycode2 | copycode3 | copycode4 | copycode5 | copycode6 | copycode7 | copycode8 | copycode9
  | copycode10 | copycode11 | copycode12 | copycode13 | copycode14 | copycode15 | copycode16 | copycode17 | copycode18
  | copycode19 | copycode20 | copycode21 | copycode22 | copycode23 => exact (copyLength_sameState s _).unfailed hs
  | dist0 | dist1 | dist2 | dist3 | dist4 | dist5 | dist6 | dist7 | dist8 | dist9 | dist10 | dist11 | dist12 | dist13
  | dist14 | dist15 => exact (shortCode_sameState s _).unfailed hs
  | distDirect code => exact (directCode_sameState s code).unfailed hs
  | distLong code => exact (longCode_sameState s code).unfailed hs
  | topIdentity | topOmitLast1 | topOmitLast2 | topOmitLast3 | topOmitLast4 | topOmitLast5 | topOmitLast6 | topOmitLast7
  | topOmitLast8 | topOmitLast9 | topUppercaseFirst | topUppercaseAll | topOmitFirst1 | topOmitFirst2 | topOmitFirst3
  | topOmitFirst4 | topOmitFirst5 | topOmitFirst6 | topOmitFirst7 | topOmitFirst8 | topOmitFirst9 | topShiftFirst
  | topShiftAll => exact (wordOp_sameState s _).unfailed hs
  | transformReserved => exact reservedTransform_stops s
  | dictbucket4 | dictbucket5 | dictbucket6 | dictbucket7 | dictbucket8 | dictbucket9 | dictbucket10 | dictbucket11
  | dictbucket12 | dictbucket13 | dictbucket14 | dictbucket15 | dictbucket16 | dictbucket17 | dictbucket18 | dictbucket19
  | dictbucket20 | dictbucket21 | dictbucket22 | dictbucket23 | dictbucket24 => exact (selectWord_sameState s _).unfailed hs
  | _ =>
    -- The id is in the table: the transform completes, by evaluation.
    exact (ensures_ok _).mpr hs

theorem runElement_unfailed (c : Ctx) : Ensures State.unfailed (runElement c s) := .runElement (elem_unfailed hs)

theorem runSymbol_unfailed (a : Alphabet) (code : Option PrefixCode) : Ensures State.unfailed (runSymbol a code s) :=
  .runSymbol (elem_unfailed hs)

theorem blockSwitch_unfailed (c : Category) : Ensures State.unfailed (blockSwitch c s) :=
  (runSymbol_unfailed hs _ _).bind fun _ hu => runSymbol_unfailed hu _ _

theorem countSymbol_unfailed (c : Category) : Ensures State.unfailed (countSymbol c s) := by
  simp [countSymbol, hs, blockSwitch_unfailed hs c]

theorem opStreamHeader_unfailed : Ensures State.unfailed (opStreamHeader s) := by
  have hheader : Ensures State.unfailed (opStreamHeader.header s) := by
    simp [opStreamHeader.header, runElement_unfailed hs]
  unfold opStreamHeader
  split <;> simp [hheader]

theorem opMhdr_unfailed : Ensures State.unfailed (opMhdr s) := by
  refine (runElement_unfailed hs _).bind fun u hu => ?_
  split
  · exact (ensures_ok u).mpr hu
  refine (runElement_unfailed hu _).bind fun v hv => ?_
  split
  · exact (ensures_ok v).mpr hv
  refine (Ensures.iterate (fun _ ha => runElement_unfailed ha _) _ hv).bind fun w hw => ?_
  simp [runElement_unfailed hw]

theorem opCmd_unfailed : Ensures State.unfailed (opCmd s) :=
  (countSymbol_unfailed hs .I).bind fun _ hu => runSymbol_unfailed hu _ _

theorem opLit_unfailed : Ensures State.unfailed (opLit s) :=
  (countSymbol_unfailed hs .L).bind fun _ hu => runSymbol_unfailed hu _ _

theorem opDist_unfailed : Ensures State.unfailed (opDist s) := by
  unfold opDist
  split
  · simp [resolve, hs]
  · exact (countSymbol_unfailed hs .D).bind fun _ hu => runSymbol_unfailed hu _ _

theorem opCopy_unfailed : Ensures State.unfailed (opCopy s) := by
  unfold opCopy
  extract_lets u
  have hu : u.unfailed := by unfold u; split <;> exact hs
  split
  · exact ensures_raise _ _ _
  · exact ((copyBackward_sameState u _ _).unfailed hu).bind fun _ hv => endOfCommand_unfailed hv

theorem opDict_unfailed : Ensures State.unfailed (opDict s) := by
  unfold opDict
  split
  · exact ensures_raise _ _ _
  split
  · exact ensures_raise _ _ _
  refine .bind (runElement_unfailed (by exact hs) _) fun u hu => (runElement_unfailed hu _).bind fun v hv => ?_
  simp [hv]

end

theorem opMetadata_unfailed (s : State) : Ensures State.unfailed (opMetadata s) := by simp [opMetadata]
theorem opUncompressed_unfailed (s : State) : Ensures State.unfailed (opUncompressed s) := by simp [opUncompressed]
theorem opSetup_unfailed (s : State) : Ensures State.unfailed (opSetup s) := by simp [opSetup]

end Sys2Proof.Machine
end

section
/-! SUPPORT. Where an instruction runs: each has one guard, the decoder states or the phase in which it is enabled. -/

namespace Sys2Proof.Machine

/-- What an instruction's meaning asks of the decoder state. -/
inductive Guard
  | states (l : List DecState)
  | phase (p : CmdPhase)

/-- The answer under a guard. -/
def Guard.run (g : Guard) (s : State) (r : Res State) : Answer State :=
  match g with
  | .states l => during l s r
  | .phase p => duringPhase p s r

/-- The guard lets an instruction run. -/
def Guard.admits (g : Guard) (st : DecState) (ph : CmdPhase) : Bool :=
  match g with
  | .states l => decide (st ∈ l)
  | .phase p => st == .commandLoop && ph == p

theorem Guard.run_of_admits {g : Guard} {s : State} (h : g.admits s.state s.cmdPhase = true) (r : Res State) :
    g.run s r = deliver s r := by
  cases g with
  | states l => exact during_of_mem (of_decide_eq_true h) r
  | phase p =>
    obtain ⟨hst, hph⟩ : s.state = .commandLoop ∧ s.cmdPhase = p := by simpa [Guard.admits] using h
    exact duringPhase_of hst hph r

theorem Guard.run_of_not_admits {g : Guard} {s : State} (h : g.admits s.state s.cmdPhase = false) (r : Res State) :
    g.run s r = .fault .notEnabled := by
  cases g with
  | states l => exact during_of_not_mem (of_decide_eq_false h) r
  | phase p => exact if_neg fun ⟨hst, hph⟩ => by simp [Guard.admits, hst, hph] at h

theorem Guard.run_cases (g : Guard) (s : State) (r : Res State) :
    g.run s r = deliver s r ∨ g.run s r = .fault .notEnabled := by
  cases h : g.admits s.state s.cmdPhase with
  | true => exact .inl (run_of_admits h r)
  | false => exact .inr (run_of_not_admits h r)

/-- The guard of a coded symbol's row: its operand does not tell the alphabet, its constructor does. -/
def symbolGuard (i : Instr) : Guard :=
  match i with
  | .btype0 _ | .btype1 _ | .btypeT _ _ => .states [.commandLoop]
  | .blen0 _ | .blen1 _ | .blen2 _ | .blen3 _ | .blen4 _ | .blen5 _ | .blen6 _ | .blen7 _ | .blen8 _ | .blen9 _ | .blen10 _
  | .blen11 _ | .blen12 _ | .blen13 _ | .blen14 _ | .blen15 _ | .blen16 _ | .blen17 _ | .blen18 _ | .blen19 _ | .blen20 _
  | .blen21 _ | .blen22 _ | .blen23 _ | .blen24 _ | .blen25 _ => .states [.compressedSetup, .commandLoop]
  | .litB _ => .phase .insert
  | .cmdCell0 _ | .cmdCell1 _ | .cmdCell2 _ | .cmdCell3 _ | .cmdCell4 _ | .cmdCell5 _ | .cmdCell6 _ | .cmdCell7 _
  | .cmdCell8 _ | .cmdCell9 _ | .cmdCell10 _ => .phase .cmdBegin
  | .dist0 | .dist1 | .dist2 | .dist3 | .dist4 | .dist5 | .dist6 | .dist7 | .dist8 | .dist9 | .dist10 | .dist11 | .dist12
  | .dist13 | .dist14 | .dist15 | .distDirect _ | .distLong _ => .phase .distance
  | _ => .states [.compressedSetup]

/-- The guard of a table entry's row: the lengths of a command, or the parts of a dictionary word. -/
def entryGuard (i : Instr) : Guard :=
  match i with
  | .inscode0 | .inscode1 | .inscode2 | .inscode3 | .inscode4 | .inscode5 | .inscode6 | .inscode7 | .inscode8 | .inscode9
  | .inscode10 | .inscode11 | .inscode12 | .inscode13 | .inscode14 | .inscode15 | .inscode16 | .inscode17 | .inscode18
  | .inscode19 | .inscode20 | .inscode21 | .inscode22 | .inscode23 | .copycode0 | .copycode1 | .copycode2 | .copycode3
  | .copycode4 | .copycode5 | .copycode6 | .copycode7 | .copycode8 | .copycode9 | .copycode10 | .copycode11 | .copycode12
  | .copycode13 | .copycode14 | .copycode15 | .copycode16 | .copycode17 | .copycode18 | .copycode19 | .copycode20
  | .copycode21 | .copycode22 | .copycode23 => .phase .cmdBegin
  | _ => .phase .copy

/-- The guard of an instruction, by the kind of its row; an operation is not an element and has none here. -/
def guardOf (i : Instr) : Guard :=
  match i.row with
  | .operation => .states []
  | .field f _ _ _ => .states [f.readIn]
  | .padding k _ _ => .states (padStates k)
  | .symbol _ => symbolGuard i
  | .entry _ => entryGuard i

/-- The meaning of an element's row is its effect, under its guard. -/
theorem exec_element {i : Instr} (hi : i ∉ operations) (s : State) : exec i s = (guardOf i).run s (elem i s) := by
  cases i with
  | streamHeader | mhdr | metadata | uncompressed | setup | cmd | lit | dist | copy | dict =>
    exact absurd (by simp [operations]) hi
  | _ => rfl

/-- No element runs in state Error. -/
theorem guardOf_error (i : Instr) (ph : CmdPhase) : (guardOf i).admits .error ph = false := by
  cases i with
  | pad k => cases k <;> rfl
  | _ => rfl

theorem exec_element_cases {i : Instr} (hi : i ∉ operations) (s : State) :
    exec i s = deliver s (elem i s) ∨ exec i s = .fault .notEnabled := by
  rw [exec_element hi]
  exact (guardOf i).run_cases s (elem i s)

end Sys2Proof.Machine
end

section
/-! Obligation O2. An element that decodes at a place has the guard of that place. -/

namespace Sys2Proof.Machine

/-- At the place of an operation only operations decode. -/
theorem operationRow_mem {st : DecState} {ph : CmdPhase} {b : Bool} {i : Instr} (h : operationRow st ph b = some i) :
    i ∈ operations := by
  unfold operationRow at h
  split at h <;> cases h <;> decide

/-- A value that a function takes all along a list, it takes at each of its members. -/
theorem of_map_eq_replicate {α β : Type} {f : α → β} {l : List α} {n : Nat} {b : β}
    (h : l.map f = List.replicate n b) {a : α} (ha : a ∈ l) : f a = b := List.eq_of_mem_replicate (h ▸ List.mem_map_of_mem ha)

theorem fieldRows_guard {f : Field} {r : FieldRow} (hr : r ∈ fieldRows f) (x : Nat) :
    guardOf (r.instr x) = .states [f.readIn] := by
  have h : (fieldRows f).map (fun r => guardOf (r.instr x)) =
      List.replicate (fieldRows f).length (.states [f.readIn]) := by
    cases f <;> rfl
  exact of_map_eq_replicate h hr

theorem decodeField_guard {f : Field} {bits : Bits} {i : Instr} {n : Nat} (h : decodeField f bits = .ok (i, n)) :
    guardOf i = .states [f.readIn] := by
  unfold decodeField at h
  split at h
  · cases h
  · rename_i r hr
    split at h
    · cases h
    · cases h
      exact fieldRows_guard (List.mem_of_find?_eq_some hr) _

/-- The guard of an alphabet's symbols. -/
def alphabetGuard (a : Alphabet) : Guard :=
  match a with
  | .codeLength | .contextMap _ => .states [.compressedSetup]
  | .blockType _ => .states [.commandLoop]
  | .blockCount _ => .states [.compressedSetup, .commandLoop]
  | .literal => .phase .insert
  | .command => .phase .cmdBegin
  | .distance _ => .phase .distance

theorem symbolRow_guard {a : Alphabet} {v : Nat} {i : Instr} (h : symbolRow a v = some i) :
    guardOf i = alphabetGuard a := by
  cases a with
  | codeLength =>
    have hrows : codeLengthRows.map guardOf = List.replicate 18 (.states [.compressedSetup]) := rfl
    exact of_map_eq_replicate hrows (List.mem_of_getElem? h)
  | blockCount c =>
    have hrows : (blockCountRows c).map guardOf = List.replicate 26 (.states [.compressedSetup, .commandLoop]) := rfl
    exact of_map_eq_replicate hrows (List.mem_of_getElem? h)
  | command =>
    have hrows : commandRows.map (fun f => guardOf (f v)) = List.replicate 11 (.phase .cmdBegin) := rfl
    obtain ⟨f, hf, rfl⟩ := Option.map_eq_some_iff.mp h
    exact of_map_eq_replicate hrows (List.mem_of_getElem? hf)
  | blockType c =>
    simp only [symbolRow] at h
    split_ifs at h <;> cases h <;> rfl
  | contextMap r =>
    simp only [symbolRow] at h
    split_ifs at h <;> cases h <;> rfl
  | literal =>
    simp only [symbolRow] at h
    split_ifs at h
    cases h
    rfl
  | distance d =>
    have hrows : shortDistanceRows.map guardOf = List.replicate 16 (.phase .distance) := rfl
    simp only [symbolRow] at h
    split_ifs at h
    · exact of_map_eq_replicate hrows (List.mem_of_getElem? h)
    all_goals cases h; rfl

/-- The guard of a constant table's entries. -/
def tableGuard (t : Table) : Guard :=
  match t with
  | .insertLength | .copyLength => .phase .cmdBegin
  | .transformOp _ | .transform | .dictBucket => .phase .copy

theorem entryRow_guard {t : Table} {v : Nat} {i : Instr} (h : entryRow t v = some i) : guardOf i = tableGuard t := by
  cases t with
  | insertLength =>
    have hrows : insertLengthRows.map guardOf = List.replicate 24 (.phase .cmdBegin) := rfl
    exact of_map_eq_replicate hrows (List.mem_of_getElem? h)
  | copyLength =>
    have hrows : copyLengthRows.map guardOf = List.replicate 24 (.phase .cmdBegin) := rfl
    exact of_map_eq_replicate hrows (List.mem_of_getElem? h)
  | transformOp param =>
    have hrows : (transformOpRows param).map guardOf = List.replicate 23 (.phase .copy) := rfl
    exact of_map_eq_replicate hrows (List.mem_of_getElem? h)
  | transform =>
    have hrows : transformRows.map guardOf = List.replicate 121 (.phase .copy) := rfl
    simp only [entryRow] at h
    split_ifs at h
    · exact of_map_eq_replicate hrows (List.mem_of_getElem? h)
    · cases h; rfl
  | dictBucket =>
    have hrows : dictBucketRows.map guardOf = List.replicate 21 (.phase .copy) := rfl
    simp only [entryRow] at h
    split_ifs at h
    exact of_map_eq_replicate hrows (List.mem_of_getElem? h)

/-- A decoded element runs where its place is read. -/
theorem decode_guard {c : Ctx} {bits : Bits} {i : Instr} {n : Nat} (h : decode c bits = .ok (i, n)) (hi : i ∉ operations)
    (st : DecState) (ph : CmdPhase) : (guardOf i).admits st ph = c.readIn st ph := by
  cases c with
  | operation st' ph' b =>
    simp only [decode] at h
    split at h <;> cases h
    exact absurd (operationRow_mem ‹_›) hi
  | field f =>
    rw [decodeField_guard h]
    simp [Guard.admits, Ctx.readIn, beq_eq_decide]
  | padding k m =>
    simp only [decode] at h
    split at h <;> cases h
    cases k <;> cases st <;> rfl
  | symbol a code =>
    simp only [decode] at h
    split at h
    · cases h
    split at h <;> cases h
    rw [symbolRow_guard ‹_›]
    cases a <;> cases st <;> rfl
  | entry t v =>
    simp only [decode] at h
    split at h <;> cases h
    rw [entryRow_guard ‹_›]
    cases t <;> cases st <;> rfl

/-- Settles O2: a row's guard is that of any place where it decodes, and under its guard its meaning is its effect. -/
theorem elementReadRunsItsRow : Obligations.ElementReadRunsItsRow := by
  refine ⟨fun c s i n => runElement_eq, fun i s hi => exec_element_cases hi s, fun c bits i n h hi s => ?_⟩
  rw [exec_element hi, ← decode_guard h hi]
  exact ⟨fun hg => Guard.run_of_admits hg _, fun hg => Guard.run_of_not_admits hg _⟩

end Sys2Proof.Machine
end

section
/-! Obligation O20. An instruction that leads to a next state delivers the result of an effect that does not itself end in Error;
so a next state in Error is the exception, taken in the state in which the instruction began. -/

namespace Sys2Proof.Machine

/-- The next state `t` of an instruction that began in `s` is that of an effect that does not end in Error. -/
def Delivers (s t : State) : Prop := ∃ r : Res State, deliver s r = .next t ∧ Ensures State.unfailed r

theorem Delivers.takeError_of_error {s t : State} (h : Delivers s t) (ht : t.state = .error) :
    ∃ k m, t = takeError k m { s with bitpos := t.bitpos } := by
  obtain ⟨r, hr, hunfailed⟩ := h
  obtain rfl | ⟨k, m, p, -, rfl⟩ := deliver_eq_next hr
  · exact absurd ht (hunfailed t rfl)
  · exact ⟨k, m, rfl⟩

section
variable {s t : State} {r : Res State} (hr : s.unfailed → Ensures State.unfailed r)
include hr

theorem delivers_of_during {states : List DecState} (he : .error ∉ states) (h : during states s r = .next t) :
    Delivers s t := by
  obtain ⟨hs, h⟩ := during_eq_next h
  exact ⟨r, h, hr (ne_of_mem_of_not_mem hs he)⟩

theorem delivers_of_duringPhase {p : CmdPhase} (h : duringPhase p s r = .next t) : Delivers s t := by
  obtain ⟨hs, -, h⟩ := duringPhase_eq_next h
  exact ⟨r, h, hr (by simp [State.unfailed, hs])⟩

theorem delivers_of_guard {i : Instr} (h : (guardOf i).run s r = .next t) : Delivers s t := by
  cases hg : (guardOf i).admits s.state s.cmdPhase with
  | true =>
    rw [Guard.run_of_admits hg] at h
    exact ⟨r, h, hr fun he => by simp [he, guardOf_error] at hg⟩
  | false =>
    rw [Guard.run_of_not_admits hg] at h
    cases h

end

theorem execCopy_delivers {s t : State} (h : execCopy s = .next t) : Delivers s t := by
  unfold execCopy at h
  split at h
  · cases h
  · exact delivers_of_duringPhase opCopy_unfailed h

theorem execDict_delivers {s t : State} (h : execDict s = .next t) : Delivers s t := by
  unfold execDict at h
  split at h
  · exact delivers_of_duringPhase opDict_unfailed h
  · cases h

theorem exec_operation_delivers {i : Instr} (hi : i ∈ operations) {s t : State} (h : exec i s = .next t) :
    Delivers s t := by
  simp only [operations, List.mem_cons, List.not_mem_nil, or_false] at hi
  obtain rfl | rfl | rfl | rfl | rfl | rfl | rfl | rfl | rfl | rfl := hi
  · exact delivers_of_during opStreamHeader_unfailed (by decide) h
  · exact delivers_of_during opMhdr_unfailed (by decide) h
  · exact delivers_of_during (fun _ => opMetadata_unfailed s) (by decide) h
  · exact delivers_of_during (fun _ => opUncompressed_unfailed s) (by decide) h
  · exact delivers_of_during (fun _ => opSetup_unfailed s) (by decide) h
  · exact delivers_of_duringPhase opCmd_unfailed h
  · exact delivers_of_duringPhase opLit_unfailed h
  · exact delivers_of_duringPhase opDist_unfailed h
  · exact execCopy_delivers h
  · exact execDict_delivers h

theorem exec_delivers {i : Instr} {s t : State} (h : exec i s = .next t) : Delivers s t := by
  by_cases hi : i ∈ operations
  · exact exec_operation_delivers hi h
  · rw [exec_element hi] at h
    exact delivers_of_guard (elem_unfailed · i) h

/-- Settles O20: no effect that completes ends in Error, so a next state in Error is an error taken. -/
theorem raisingSavesTheRecordAlone : Obligations.RaisingSavesTheRecordAlone := fun _ _ _ h ht =>
  (exec_delivers h).takeError_of_error ht

end Sys2Proof.Machine
end

section
/-! Obligations O1, O8, O9, O19. The ends of a run: where it starts, which operation a step runs, where it stays. -/

namespace Sys2Proof.Machine

/-- A step at an enabled operation is its meaning. -/
theorem step_of_operationRow {s : State} {i : Instr} (h : operationRow s.state s.cmdPhase s.beyond = some i) :
    step s = exec i s := by
  simp [step, State.fetch, State.place, decode, h]

/-- Nothing is fetched where no operation is enabled. -/
theorem fetch_of_ended {s : State} (h : s.state = .error ∨ s.state = .done) : s.fetch = .error .noOperation := by
  obtain h | h := h <;> simp [State.fetch, State.place, decode, operationRow, h]

theorem step_of_ended {s : State} (h : s.state = .error ∨ s.state = .done) : step s = .next s := by
  simp [step, fetch_of_ended h]

/-- Settles O1, by the table of enabled operations. -/
theorem stepRunsTheEnabledOperation : Obligations.StepRunsTheEnabledOperation := by
  intro s
  refine ⟨fun i n h => by simp [step, fetch_eq h], ?_, ?_, ?_, ?_, ?_, ?_, ?_, ?_, ?_, ?_,
    fun h => step_of_ended h.symm⟩
  case refine_9 =>
    intro hst hph hd
    have hb : s.beyond = false := by simpa [State.beyond] using hd
    exact step_of_operationRow (by simp [operationRow, hst, hph, hb])
  case refine_10 =>
    intro hst hph hd
    have hb : s.beyond = true := by simpa [State.beyond] using hd
    exact step_of_operationRow (by simp [operationRow, hst, hph, hb])
  all_goals
    intros
    exact step_of_operationRow (by simp [operationRow, *])

/-- Settles O8. -/
theorem aCallStartsInTheResetState : Obligations.ACallStartsInTheResetState := by
  refine ⟨fun ps dict input => ⟨rfl, rfl, rfl, rfl, rfl, Memory.bytes_ofBytes input, rfl⟩, ?_, ?_⟩
  · intro s d hst hd hsize
    refine ⟨"invalid dictionary size", ?_⟩
    simp [exec, execStreamHeader, during, hst, opStreamHeader, hd, hsize, raise, takeError]
  · intro s hst hd hempty hok
    have hheader : opStreamHeader s = opStreamHeader.header s := by
      unfold opStreamHeader
      split
      · exact if_pos (hd _ ‹_›)
      · rfl
    simp [exec, execStreamHeader, during, hst, hheader, opStreamHeader.header, hempty, hok, State.goto]

/-- The start of a call is sound: in the stream-header state only the canonical forms and the reset values are asked. -/
theorem sound_start (ps : Params) (dict : Option (List Byte)) (input : List Byte) :
    Sound (State.start ps dict input) where
  inputCanonical := Memory.wf_ofBytes input
  outputCanonical := rfl
  dictCanonical d hd := by
    obtain ⟨bs, -, rfl⟩ := Option.map_eq_some_iff.mp hd
    exact Memory.wf_ofBytes bs
  cursorInInput := Nat.zero_le _
  ringValid := by simp [State.start, State.reset, State.ringEntryValid]
  errorRecorded := by simp [State.start, State.reset]
  workIdle := rfl
  atStart _ := ⟨rfl, rfl⟩
  streamOpen h := absurd rfl h
  inMetadata := nofun
  inUncompressed := nofun
  inSetup := nofun
  inLoop := nofun

/-- Settles O9: reset is the start of a call with the default parameters, no dictionary and no input. -/
theorem invariantHoldsAtTheStart : Obligations.InvariantHoldsAtTheStart :=
  ⟨sound_start .default none [], sound_start⟩

/-- No guard of an element admits an ended decode. -/
theorem guardOf_ended {s : State} (h : s.state = .error ∨ s.state = .done) (i : Instr) :
    (guardOf i).admits s.state s.cmdPhase = false := by
  obtain h | h := h
  · rw [h]; exact guardOf_error i _
  · rw [h]
    cases i with
    | pad k => cases k <;> rfl
    | _ => rfl

theorem exec_operation_ended {s : State} (h : s.state = .error ∨ s.state = .done) {i : Instr} (hi : i ∈ operations) :
    exec i s = .fault .notEnabled := by
  have hduring (l : List DecState) (r : Res State) (he : .error ∉ l) (hd : .done ∉ l) :
      during l s r = .fault .notEnabled := during_of_not_mem (by obtain h | h := h <;> simpa [h]) r
  have hphase (p : CmdPhase) (r : Res State) : duringPhase p s r = .fault .notEnabled :=
    if_neg fun ⟨hst, _⟩ => by obtain h | h := h <;> simp [h] at hst
  simp only [operations, List.mem_cons, List.not_mem_nil, or_false] at hi
  obtain rfl | rfl | rfl | rfl | rfl | rfl | rfl | rfl | rfl | rfl := hi
  case inl | inr.inl | inr.inr.inl | inr.inr.inr.inl | inr.inr.inr.inr.inl =>
    exact hduring _ _ (by decide) (by decide)
  all_goals simp [exec, execCmd, execLit, execDist, execCopy, execDict, hphase]

/-- Settles O19. -/
theorem errorAndDoneAreFinal : Obligations.ErrorAndDoneAreFinal := by
  intro s h
  refine ⟨fetch_of_ended h, step_of_ended h, fun i => ?_, ?_, ?_, ?_⟩
  · by_cases hi : i ∈ operations
    · exact exec_operation_ended h hi
    · rw [exec_element hi, Guard.run_of_not_admits (guardOf_ended h i)]
  · obtain h | h := h <;> simp [State.ended, h]
  · intro he; simp [State.result, he]
  · intro hd; simp [State.result, hd]

end Sys2Proof.Machine
end

section
/-! Obligation O58. The literal contexts: the tables by ranges of bytes, and the last two bytes. -/

namespace Sys2Proof.Machine

/-- A byte is sixteen times its high digit and its low digit: a table of bytes is checked line by line. -/
theorem forall_byte {P : Nat → Prop} (h : ∀ i < 16, ∀ j < 16, P (16 * i + j)) (b : Nat) (hb : b < 256) : P b := by
  have := h (b / 16) (by omega) (b % 16) (by omega)
  rwa [show 16 * (b / 16) + b % 16 = b by omega] at this

theorem lut0_lt {b : Nat} (hb : b < 256) : lut0 b < 64 := forall_byte (P := (lut0 · < 64)) (by decide) b hb

theorem lut1_lt {b : Nat} (hb : b < 256) : lut1 b < 64 := forall_byte (P := (lut1 · < 64)) (by decide) b hb

/-- The number of range bounds of LUT2 that a byte reaches (30_encoding.md R89). -/
theorem lut2_eq {b : Nat} (hb : b < 256) : lut2 b = ([1, 16, 64, 128, 192, 240, 255].filter (· ≤ b)).length :=
  forall_byte (P := fun b => lut2 b = ([1, 16, 64, 128, 192, 240, 255].filter (· ≤ b)).length) (by decide) b hb

theorem lut2_lt (b : Nat) : lut2 b < 8 := by
  unfold lut2
  split_ifs <;> decide

/-- The low three bits of a shifted number are free (30_encoding.md R86). -/
theorem contextId_signed (p1 p2 : Nat) : contextId .signed p1 p2 = 8 * lut2 p1 + lut2 p2 := by
  simp only [contextId]
  rw [← Nat.shiftLeft_add_eq_or_of_lt (lut2_lt p2), Nat.shiftLeft_eq]
  ring

theorem contextId_lsb6 (p1 p2 : Nat) : contextId .lsb6 p1 p2 = p1 % 64 := Nat.and_two_pow_sub_one_eq_mod p1 6

theorem contextId_msb6 (p1 p2 : Nat) : contextId .msb6 p1 p2 = p1 / 4 := Nat.shiftRight_eq_div_pow p1 2

theorem contextId_lt (m : CtxMode) {p1 p2 : Nat} (h1 : p1 < 256) (h2 : p2 < 256) : contextId m p1 p2 < 64 := by
  cases m with
  | lsb6 => rw [contextId_lsb6]; omega
  | msb6 => rw [contextId_msb6]; omega
  | utf8 => exact Nat.or_lt_two_pow (n := 6) (lut0_lt h1) (lut1_lt h2)
  | signed =>
    rw [contextId_signed]
    have := lut2_lt p1
    have := lut2_lt p2
    omega

/-- The byte appended last is the last byte. -/
theorem lastByte_one_append {s : State} (h : s.out.wf = true) (b : Byte) : (s.append b).lastByte 1 = b.toNat := by
  have hread : (s.out.push b).read s.pos = some b := Memory.read_push_self h b
  simp [State.lastByte, hread]

/-- The last byte before is the second-to-last one after a byte is appended. -/
theorem lastByte_two_append (s : State) (b : Byte) : (s.append b).lastByte 2 = s.lastByte 1 := by
  rcases Nat.eq_zero_or_pos s.pos with h0 | hpos
  · simp [State.lastByte, h0]
  · have hread : (s.out.push b).read (s.pos - 1) = s.out.read (s.pos - 1) :=
      Memory.read_push_of_ne s.out b (by simp only [State.pos] at *; omega)
    simp [State.lastByte, show s.pos + 1 - 2 = s.pos - 1 by omega, hread, show 2 ≤ s.pos + 1 by omega,
      show 1 ≤ s.pos by omega]

/-- Settles O58: the tables are compared byte by byte, the rest is the reading of the output. -/
theorem contextFollowsTheLastTwoBytes : Obligations.ContextFollowsTheLastTwoBytes := by
  refine ⟨fun m _ _ => contextId_lt m, ?_, fun s b h => ⟨lastByte_one_append h b, lastByte_two_append s b⟩,
    fun s h => by simp [State.lastByte, h]⟩
  intro digit capital small LUT0 LUT1 LUT2 p1 p2 h1 h2
  have h0 : ∀ b < 256, lut0 b = LUT0 b := forall_byte (by decide)
  have h1' : ∀ b < 256, lut1 b = LUT1 b := forall_byte (by decide)
  refine ⟨contextId_lsb6 p1 p2, contextId_msb6 p1 p2, ?_, ?_⟩
  · simp only [contextId, h0 p1 h1, h1' p2 h2]
  · rw [contextId_signed, lut2_eq h1, lut2_eq h2]

end Sys2Proof.Machine
end

section
/-! SUPPORT. The frame of an instruction: which registers it may write. What holds of every row whatever it writes is said with it:
the call's fields and the error record stay, the output only grows at its end, the cursor stays in the input, and so does the
cursor of an error. -/

namespace Sys2Proof.Machine

/-- The registers of 10_state.md that some instruction writes, in the groups in which they are written. The cursor is not
among them: nearly every instruction moves it. `rlemax` is the one part of the workspace that another read leaves alone. -/
inductive Reg
  | wbits | last | metadata | uncompressed | mlen | remaining | tracker (c : Category) | npostfix | ndirect | cmode
  | mapL | mapD | treesL | treesI | treesD | distRing | out | insertLen | copyLen | implicitD0 | distance | cmdPhase
  | state | work | rlemax
  deriving DecidableEq

/-- The register holds the same in both states. -/
@[simp] def Reg.same (r : Reg) (s t : State) : Prop :=
  match r with
  | .wbits => t.wbits = s.wbits
  | .last => t.isLast = s.isLast ∧ t.isLastEmpty = s.isLastEmpty
  | .metadata => t.isMetadata = s.isMetadata
  | .uncompressed => t.isUncompressed = s.isUncompressed
  | .mlen => t.mlen = s.mlen
  | .remaining => t.remaining = s.remaining
  | .tracker c => t.tracker c = s.tracker c
  | .npostfix => t.npostfix = s.npostfix
  | .ndirect => t.ndirect = s.ndirect
  | .cmode => t.cmode = s.cmode
  | .mapL => t.ntreesL = s.ntreesL ∧ t.cmapL = s.cmapL
  | .mapD => t.ntreesD = s.ntreesD ∧ t.cmapD = s.cmapD
  | .treesL => t.htreeL = s.htreeL
  | .treesI => t.htreeI = s.htreeI
  | .treesD => t.htreeD = s.htreeD
  | .distRing => t.distRing = s.distRing
  | .out => t.out = s.out
  | .insertLen => t.insertLen = s.insertLen
  | .copyLen => t.copyLen = s.copyLen ∧ t.distCtx = s.distCtx
  | .implicitD0 => t.implicitD0 = s.implicitD0
  | .distance => t.dcode = s.dcode ∧ t.distance = s.distance
  | .cmdPhase => t.cmdPhase = s.cmdPhase
  | .state => t.state = s.state
  | .work => t.work = s.work
  | .rlemax => t.work.rlemax = s.work.rlemax

theorem Reg.same_refl (r : Reg) (s : State) : r.same s s := by cases r <;> simp

theorem Reg.same_trans {r : Reg} {s t u : State} (h : r.same s t) (h' : r.same t u) : r.same s u := by
  cases r <;> simp_all

/-- The output `m'` is `m` with some bytes after it (20_memory.md R56). -/
def Appends (m m' : Memory) : Prop := ∃ bs : List Byte, m' = bs.foldl Memory.push m

theorem State.out_appendAll (s : State) (bs : List Byte) : (s.appendAll bs).out = bs.foldl Memory.push s.out := by
  induction bs generalizing s with
  | nil => rfl
  | cons b bs ih => exact ih (s.append b)

@[simp] theorem Appends.refl (m : Memory) : Appends m m := ⟨[], rfl⟩

@[simp] theorem appends_push (m : Memory) (b : Byte) : Appends m (m.push b) := ⟨[b], rfl⟩

@[simp] theorem appends_appendAll (s : State) (bs : List Byte) : Appends s.out (s.appendAll bs).out :=
  ⟨bs, s.out_appendAll bs⟩

theorem Appends.trans {m m' m'' : Memory} (h : Appends m m') (h' : Appends m' m'') : Appends m m'' := by
  obtain ⟨bs, rfl⟩ := h
  obtain ⟨cs, rfl⟩ := h'
  exact ⟨bs ++ cs, by simp⟩

theorem Appends.eq_appendAll {s : State} {m : Memory} (h : Appends s.out m) : ∃ bs, m = (s.appendAll bs).out := by
  obtain ⟨bs, rfl⟩ := h
  exact ⟨bs, (s.out_appendAll bs).symm⟩

/-- `t` is `s` but for the cursor, bytes appended, and the registers listed. -/
structure Frame (W : List Reg) (s t : State) : Prop where
  params : t.params = s.params
  dict : t.dict = s.dict
  inp : t.inp = s.inp
  err : t.err = s.err
  appends : Appends s.out t.out
  same : ∀ r, r ∉ W → r.same s t

namespace Frame
variable {W V : List Reg} {s t u : State}

theorem refl (W : List Reg) (s : State) : Frame W s s := ⟨rfl, rfl, rfl, rfl, .refl _, fun r _ => r.same_refl s⟩

theorem trans (h : Frame W s t) (h' : Frame W t u) : Frame W s u :=
  ⟨h'.params.trans h.params, h'.dict.trans h.dict, h'.inp.trans h.inp, h'.err.trans h.err, h.appends.trans h'.appends,
    fun r hr => Reg.same_trans (h.same r hr) (h'.same r hr)⟩

theorem mono (h : Frame W s t) (hWV : W ⊆ V) : Frame V s t :=
  { h with same := fun r hr => h.same r fun hW => hr (hWV hW) }

theorem out_wf (h : Frame W s t) (hw : s.out.wf = true) : t.out.wf = true := by
  obtain ⟨bs, hbs⟩ := h.appends.eq_appendAll
  exact hbs ▸ Memory.wf_appendAll hw bs

theorem pos_le (h : Frame W s t) : s.pos ≤ t.pos := by
  obtain ⟨bs, hbs⟩ := h.appends.eq_appendAll
  have hpos := State.appendAll_pos s bs
  simp only [State.pos, ← hbs] at hpos ⊢
  omega

theorem inputBits (h : Frame W s t) : t.inputBits = s.inputBits := by simp [State.inputBits, h.inp]

end Frame

/-- A statement about every register, written out for the simplifier. -/
@[simp] theorem Reg.forall_iff {P : Reg → Prop} : (∀ r, P r) ↔
    P .wbits ∧ P .last ∧ P .metadata ∧ P .uncompressed ∧ P .mlen ∧ P .remaining ∧ P (.tracker .L) ∧ P (.tracker .I) ∧
    P (.tracker .D) ∧ P .npostfix ∧ P .ndirect ∧ P .cmode ∧ P .mapL ∧ P .mapD ∧ P .treesL ∧ P .treesI ∧ P .treesD ∧
    P .distRing ∧ P .out ∧ P .insertLen ∧ P .copyLen ∧ P .implicitD0 ∧ P .distance ∧ P .cmdPhase ∧ P .state ∧ P .work ∧
    P .rlemax := by
  refine ⟨fun h => by simp only [h, and_self], fun h r => ?_⟩
  cases r with
  | tracker c => cases c <;> simp only [h]
  | _ => simp only [h]

@[simp] theorem State.tracker_L (s : State) : s.tracker .L = s.trackerL := rfl
@[simp] theorem State.tracker_I (s : State) : s.tracker .I = s.trackerI := rfl
@[simp] theorem State.tracker_D (s : State) : s.tracker .D = s.trackerD := rfl

theorem frame_iff {W : List Reg} {s t : State} : Frame W s t ↔
    (t.params = s.params ∧ t.dict = s.dict ∧ t.inp = s.inp ∧ t.err = s.err) ∧
    Appends s.out t.out ∧ ∀ r, r ∉ W → r.same s t :=
  ⟨fun h => ⟨⟨h.params, h.dict, h.inp, h.err⟩, h.appends, h.same⟩,
    fun ⟨⟨hp, hd, hi, he⟩, ha, hs⟩ => ⟨hp, hd, hi, he, ha, hs⟩⟩

theorem frame_setTracker (c : Category) (k : Tracker) (s : State) : Frame [.tracker c] s (s.setTracker c k) := by
  cases c <;> simp [frame_iff, State.setTracker]

/-! ### Where an error is raised -/

/-- If the computation raises, the cursor at the raise satisfies `E`. -/
def RaisesAt {α : Type} (E : Nat → Prop) (r : Res α) : Prop := ∀ k m p, r = .error (.raise k m p) → E p

section
variable {α β : Type} {E : Nat → Prop}

@[simp] theorem raisesAt_ok (a : α) : RaisesAt E (.ok a : Res α) := fun _ _ _ h => by cases h

@[simp] theorem raisesAt_fault (f : Fault) : RaisesAt E (.error (.fault f) : Res α) := fun _ _ _ h => by cases h

@[simp] theorem raisesAt_refuse (r : Refusal) : RaisesAt E (.error (.refuse r) : Res α) := fun _ _ _ h => by cases h

@[simp] theorem raisesAt_error_raise (k : ErrorKind) (m : String) (p : Nat) :
    RaisesAt E (.error (.raise k m p) : Res α) ↔ E p :=
  ⟨fun h => h k m p rfl, fun h _ _ _ he => by cases he; exact h⟩

@[simp] theorem raisesAt_raise (k : ErrorKind) (m : String) (s : State) :
    RaisesAt E (raise k m s : Res α) ↔ E s.bitpos := raisesAt_error_raise k m s.bitpos

@[simp] theorem raisesAt_bind (r : Res α) (f : α → Res β) :
    RaisesAt E (r >>= f) ↔ RaisesAt E r ∧ Ensures (fun a => RaisesAt E (f a)) r := by
  constructor
  · exact fun h => ⟨fun k m p hr => h k m p (Res.bind_eq_error.mpr (.inl hr)),
      fun a ha k m p hf => h k m p (Res.bind_eq_error.mpr (.inr ⟨a, ha, hf⟩))⟩
  · intro ⟨hr, hf⟩ k m p h
    obtain h | ⟨a, ha, h⟩ := Res.bind_eq_error.mp h
    · exact hr k m p h
    · exact hf a ha k m p h

@[simp] theorem raisesAt_ite (c : Prop) [Decidable c] (r q : Res α) :
    RaisesAt E (if c then r else q) ↔ (c → RaisesAt E r) ∧ (¬c → RaisesAt E q) := by
  split <;> simp [*]

@[simp] theorem raisesAt_skip (n : Nat) (s : State) : RaisesAt E (skip n s) ↔ (¬s.has n → E s.bitpos) := by
  simp [skip]

@[simp] theorem raisesAt_readBits (n : Nat) (s : State) : RaisesAt E (readBits n s) ↔ (¬s.has n → E s.bitpos) := by
  simp [readBits]

@[simp] theorem raisesAt_allocate (site : AllocSite) (k : ErrorKind) (s : State) :
    RaisesAt E (allocate site k s) ↔ (site ∈ s.params.allocFail → E s.bitpos) := by
  simp [allocate]

theorem raisesAt_consume {s : State} (h : E s.bitpos) (code : Option PrefixCode) (sym : Nat) :
    RaisesAt E (consume code sym s) := by
  unfold consume
  split
  · simp
  split
  · simp
  · simp [h]

end

/-! ### Running in a frame -/

/-- The cursor lies in the input or at its end (10_state.md R25). -/
abbrev State.cursorIn (s : State) : Prop := s.bitpos ≤ s.inputBits

/-- A computation from `s` that completes has written at most the registers `W`; and from a cursor in the input it leaves the
cursor in the input, whether it completes or raises. -/
structure Runs (W : List Reg) (s : State) (r : Res State) : Prop where
  frame : Ensures (Frame W s) r
  cursor : s.cursorIn → Ensures State.cursorIn r
  raised : s.cursorIn → RaisesAt (· ≤ s.inputBits) r

theorem runs_iff {W : List Reg} {s : State} {r : Res State} : Runs W s r ↔
    Ensures (fun t => (t.params = s.params ∧ t.dict = s.dict ∧ t.inp = s.inp ∧ t.err = s.err) ∧
      Appends s.out t.out ∧ ∀ r, r ∉ W → r.same s t) r ∧
    (s.bitpos ≤ s.inputBits → Ensures (fun t => t.bitpos ≤ t.inputBits) r) ∧
    (s.bitpos ≤ s.inputBits → RaisesAt (· ≤ s.inputBits) r) :=
  ⟨fun h => ⟨h.frame.mono fun _ => frame_iff.mp, h.cursor, h.raised⟩,
    fun ⟨hf, hc, hr⟩ => ⟨hf.mono fun _ => frame_iff.mpr, hc, hr⟩⟩

namespace Runs
variable {W V : List Reg} {s : State} {r : Res State} {f : State → Res State}

theorem mono (h : Runs W s r) (hWV : W ⊆ V) : Runs V s r :=
  { h with frame := h.frame.mono fun _ ht => ht.mono hWV }

/-- Two parts in a row, the second from wherever the first leads. -/
theorem bind' (h : Runs W s r) (hf : ∀ t, r = .ok t → Runs W t (f t)) : Runs W s (r >>= f) where
  frame := (ensures_bind r f).mpr fun t ht =>
    (hf t ht).frame.mono fun _ hu => (h.frame t ht).trans hu
  cursor hs := (ensures_bind r f).mpr fun t ht => (hf t ht).cursor (h.cursor hs t ht)
  raised hs := (raisesAt_bind r f).mpr ⟨h.raised hs, fun t ht => by
    have := (hf t ht).raised (h.cursor hs t ht)
    rwa [(h.frame t ht).inputBits] at this⟩

theorem bind (h : Runs W s r) (hf : ∀ t, Runs W t (f t)) : Runs W s (r >>= f) := h.bind' fun t _ => hf t

theorem ok {t : State} (h : Frame W s t) (hp : t.bitpos = s.bitpos) : Runs W s (.ok t) where
  frame := (ensures_ok t).mpr h
  cursor hs := (ensures_ok t).mpr (by simpa [State.cursorIn, hp, h.inputBits] using hs)
  raised _ := raisesAt_ok t

theorem pure (W : List Reg) (s : State) : Runs W s (.ok s) := .ok (.refl W s) rfl

theorem raise (W : List Reg) (k : ErrorKind) (m : String) (s : State) : Runs W s (raise k m s) :=
  ⟨ensures_raise _ _ _, fun _ => ensures_raise _ _ _, fun hs => (raisesAt_raise _ _ _).mpr hs⟩

/-- A computation from a state that differs from `s` in registers of `W` only. -/
theorem of_frame {t : State} (h : Frame W s t) (hp : t.bitpos = s.bitpos) (hr : Runs W t r) : Runs W s r := by
  simpa using (Runs.ok h hp).bind' (f := fun _ => r) fun u hu => by cases hu; exact hr

theorem iterate (hf : ∀ t, Runs W t (f t)) (n : Nat) (s : State) : Runs W s (iterate n f s) := by
  induction n generalizing s with
  | zero => exact .pure W s
  | succ n ih => exact (hf s).bind fun t => ih t

theorem iterateWhile (hf : ∀ t, Runs W t (f t)) (c : State → Bool) (n : Nat) (s : State) :
    Runs W s (iterateWhile n c f s) := by
  induction n generalizing s with
  | zero => exact .pure W s
  | succ n ih =>
    unfold Machine.iterateWhile
    split
    · exact (hf s).bind fun t => ih t
    · exact .pure W s

end Runs

end Sys2Proof.Machine
end

namespace Sys2Proof.Machine
section
variable (s : State)

theorem skip_runs (W : List Reg) (n : Nat) : Runs W s (skip n s) := by
  simp +contextual [runs_iff]

theorem consume_runs (W : List Reg) (code : Option PrefixCode) (sym : Nat) : Runs W s (consume code sym s) := by
  unfold consume
  split
  · simp [runs_iff]
  split
  · simp [runs_iff]
  · exact skip_runs s W _

theorem padding_runs (k : PadKind) (n v : Nat) : Runs [] s (padding k n v s) := by
  simp +contextual [padding, runs_iff]

theorem setWindow_runs (n w : Nat) : Runs [.wbits, .state] s (setWindow n w s) := by
  simp +contextual [setWindow, runs_iff, State.inputBits]

theorem largeWindow_runs (W : List Reg) (n : Nat) : Runs W s (largeWindow n s) := by
  simp +contextual [largeWindow, runs_iff]

theorem finalPadding_runs : Runs [] s (finalPadding s) := by
  simp +contextual [finalPadding, alignToByte, padding, runs_iff]

theorem endOfMetaBlock_runs : Runs [.state] s (endOfMetaBlock s) := by
  unfold endOfMetaBlock
  split
  · exact ((finalPadding_runs s).mono (List.nil_subset _)).bind fun t => by simp [runs_iff, State.inputBits]
  · simp [runs_iff, State.inputBits]

theorem lastEmptyHeader_runs : Runs [.last, .state] s (lastEmptyHeader s) :=
  (skip_runs s _ 2).bind fun t => .of_frame (t := { t with isLast := true, isLastEmpty := true })
    (by simp [frame_iff]) rfl <| ((finalPadding_runs _).mono (List.nil_subset _)).bind fun u => by
      simp [runs_iff, State.inputBits]

theorem lastHeader_runs : Runs [.last] s (lastHeader s) := by
  simp +contextual [lastHeader, runs_iff, State.inputBits]

theorem notLastHeader_runs : Runs [.last] s (notLastHeader s) := by
  simp +contextual [notLastHeader, runs_iff, State.inputBits]

theorem dataNibbles_runs (n : Nat) : Runs [.metadata, .work] s (dataNibbles n s) := by
  simp +contextual [dataNibbles, runs_iff, State.inputBits]

theorem metadataNibbles_runs : Runs [.metadata, .state] s (metadataNibbles s) := by
  simp +contextual [metadataNibbles, runs_iff, State.inputBits]

theorem lengthNibble_runs (x : Nat) : Runs [.mlen, .work] s (lengthNibble x s) := by
  simp +contextual [lengthNibble, runs_iff, State.inputBits]

theorem dispatchBody_runs : Runs [.remaining, .state] s (dispatchBody s) := by
  simp +contextual [dispatchBody, runs_iff, State.inputBits]

theorem reservedBitSet_runs (W : List Reg) : Runs W s (reservedBitSet s) := by
  simp +contextual [reservedBitSet, runs_iff]

theorem setSkipBytes_runs (k : Nat) : Runs [.work] s (setSkipBytes k s) := by
  simp +contextual [setSkipBytes, runs_iff, State.inputBits]

theorem skipLengthByte_runs (b : Nat) : Runs [.work] s (skipLengthByte b s) := by
  simp +contextual [skipLengthByte, runs_iff, State.inputBits]

theorem setCount_runs (n v : Nat) : Runs [.work] s (setCount n v s) := by
  simp +contextual [setCount, runs_iff, State.inputBits]

theorem startSimple_runs : Runs [.work] s (startSimple s) := by
  simp +contextual [startSimple, runs_iff, State.inputBits]
theorem startComplex_runs (h : Nat) : Runs [.work] s (startComplex h s) := by
  simp +contextual [startComplex, runs_iff, State.inputBits]
theorem simpleSymbol_runs : Runs [.work] s (simpleSymbol s) := by
  simp +contextual [simpleSymbol, runs_iff, State.inputBits]
theorem selectTree_runs (b : Bool) : Runs [.work] s (selectTree b s) := by
  simp +contextual [selectTree, assignSimple, runs_iff, State.inputBits]
theorem setPostfix_runs (k : Nat) : Runs [.npostfix] s (setPostfix k s) := by
  simp +contextual [setPostfix, runs_iff, State.inputBits]
theorem setDirect_runs (x : Nat) : Runs [.ndirect] s (setDirect x s) := by
  simp +contextual [setDirect, runs_iff, State.inputBits]
theorem pushMode_runs (m : CtxMode) : Runs [.cmode] s (pushMode m s) := by
  simp +contextual [pushMode, runs_iff, State.inputBits]
theorem setRlemax_runs (n r : Nat) : Runs [.work, .rlemax] s (setRlemax n r s) := by
  simp +contextual [setRlemax, runs_iff, State.inputBits]
theorem applyMoveToFront_runs : Runs [.work] s (applyMoveToFront s) := by
  simp +contextual [applyMoveToFront, runs_iff, State.inputBits]
theorem insertLength_runs (i : Nat) : Runs [.insertLen] s (insertLength i s) := by
  simp +contextual [insertLength, runs_iff, State.inputBits]
theorem copyLength_runs (k : Nat) : Runs [.copyLen] s (copyLength k s) := by
  simp +contextual [copyLength, runs_iff, State.inputBits]
theorem shortCode_runs (code : Nat) : Runs [.distance, .cmdPhase] s (shortCode code s) :=
  (consume_runs s _ _ _).bind fun t => by simp +contextual [resolve, runs_iff, State.inputBits]

theorem directCode_runs (code : Nat) : Runs [.distance, .cmdPhase] s (directCode code s) :=
  (consume_runs s _ _ _).bind fun t => by simp [resolve, runs_iff, State.inputBits]
theorem longCode_runs (code : Nat) : Runs [.distance, .cmdPhase] s (longCode code s) :=
  (consume_runs s _ _ _).bind fun t => by simp +contextual [resolve, runs_iff, State.inputBits]
theorem mapZero_runs : Runs [.work] s (mapZero s) :=
  (consume_runs s _ _ _).bind fun t => by simp [runs_iff, State.inputBits]
theorem mapRun_runs (v : Nat) : Runs [.work] s (mapRun v s) :=
  (consume_runs s _ _ _).bind fun t => by simp +contextual [runs_iff, State.inputBits]
theorem mapValue_runs (v : Nat) : Runs [.work] s (mapValue v s) :=
  (consume_runs s _ _ _).bind fun t => by simp [runs_iff, State.inputBits]


theorem uncompressedFlag_runs (b : Bool) : Runs [.uncompressed, .remaining, .state] s (uncompressedFlag b s) :=
  (skip_runs s _ 1).bind fun t => .of_frame (t := { t with isUncompressed := b }) (by simp [frame_iff]) rfl <|
    (dispatchBody_runs _).mono (by decide)

theorem lastIsCompressed_runs : Runs [.uncompressed, .remaining, .state] s (lastIsCompressed s) :=
  .of_frame (t := { s with isUncompressed := false }) (by simp [frame_iff]) rfl <|
    (dispatchBody_runs _).mono (by decide)

theorem simpleSymbols_runs (n : Nat) : Runs [.work] s (simpleSymbols n s) := by
  refine (skip_runs s _ 2).bind fun t => .of_frame (t := { t with work := { t.work with syms := [] } })
    (by simp [frame_iff]) rfl <| (Runs.iterate simpleSymbol_runs n _).bind fun u => ?_
  split
  · split <;> simp [assignSimple, runs_iff, State.inputBits]
  · exact .raise ..

theorem codeLengthLength_runs (n v : Nat) : Runs [.work] s (codeLengthLength n v s) := by
  refine (skip_runs s _ n).bind fun t => ?_
  dsimp only
  split
  · simp [runs_iff]
  · split <;> simp [runs_iff, State.inputBits]

theorem literalLength_runs (c : Nat) : Runs [.work] s (literalLength c s) := by
  refine (consume_runs s _ _ _).bind fun t => ?_
  dsimp only
  split <;> simp [runs_iff, State.inputBits]

theorem repeatLength_runs (newLen eb : Nat) : Runs [.work] s (repeatLength newLen eb s) := by
  by_cases hn : newLen = 0 <;> simp +contextual [repeatLength, hn, runs_iff, State.inputBits]

theorem repeatPrevious_runs : Runs [.work] s (repeatPrevious s) :=
  (consume_runs s _ _ _).bind fun t => repeatLength_runs t _ 2

theorem repeatZero_runs : Runs [.work] s (repeatZero s) :=
  (consume_runs s _ _ _).bind fun t => repeatLength_runs t 0 3

theorem switchType_runs (c : Category) (t : Nat) : Runs [.tracker c] s (switchType c t s) :=
  (consume_runs s _ _ _).bind fun u => .ok (frame_setTracker c _ u) (by simp)

theorem renewCount_runs (c : Category) (k : Nat) : Runs [.tracker c] s (renewCount c k s) := by
  refine (consume_runs s _ _ _).bind fun u => ?_
  cases c <;> simp +contextual [State.setTracker, runs_iff, State.inputBits]

theorem postInsert_runs : Runs [.cmdPhase, .state] s (postInsert s) := by
  unfold postInsert
  split
  · exact (endOfMetaBlock_runs s).mono (by decide)
  · simp [runs_iff, State.inputBits]

theorem endOfCommand_runs : Runs [.cmdPhase, .state] s (endOfCommand s) := by
  unfold endOfCommand
  split
  · exact (endOfMetaBlock_runs s).mono (by decide)
  · simp [runs_iff, State.inputBits]

theorem literal_runs (b : Byte) : Runs [.out, .remaining, .insertLen, .cmdPhase, .state] s (literal b s) := by
  refine (consume_runs s _ _ _).bind fun t => .of_frame
    (t := { t.append b with remaining := t.remaining - 1, insertLen := t.insertLen - 1 }) (by simp [frame_iff]) rfl ?_
  dsimp only
  split
  · exact (postInsert_runs _).mono (by decide)
  · exact .pure _ _

theorem command_runs (cell sym : Nat) :
    Runs [.insertLen, .copyLen, .implicitD0, .cmdPhase, .state] s (command cell sym s) := by
  refine (consume_runs s _ _ _).bind fun t => ((insertLength_runs t _).mono (by decide)).bind fun u =>
    ((copyLength_runs u _).mono (by decide)).bind fun v => .of_frame
    (t := { v with implicitD0 := decide (cell ≤ 1) }) (by simp [frame_iff]) rfl ?_
  dsimp only
  split
  · exact .raise ..
  split
  · simp [runs_iff, State.inputBits]
  · exact (postInsert_runs _).mono (by decide)

theorem wordOp_runs (op : TransformOp) : Runs [.work] s (wordOp op s) := by simp [wordOp, runs_iff, State.inputBits]

theorem wordTransform_runs (tid : Nat) : Runs [.work] s (wordTransform tid s) := by
  unfold wordTransform
  split <;> simp [runs_iff, State.inputBits]

theorem selectWord_runs (len : Nat) : Runs [.work] s (selectWord len s) := by
  simp only [selectWord]
  split <;> simp [runs_iff, State.inputBits]


/-! ### Every row -/

/-- The registers that an instruction may write. -/
def writes (i : Instr) : List Reg :=
  match i with
  | .streamHeader => [.wbits, .state]
  | .mhdr => [.last, .metadata, .uncompressed, .mlen, .remaining, .state, .work, .rlemax]
  | .metadata => [.state, .work, .rlemax]
  | .uncompressed => [.out, .remaining, .state]
  | .setup =>
    [.tracker .L, .tracker .I, .tracker .D, .npostfix, .ndirect, .cmode, .mapL, .mapD, .treesL, .treesI, .treesD,
      .cmdPhase, .state, .work, .rlemax]
  | .cmd => [.tracker .I, .insertLen, .copyLen, .implicitD0, .cmdPhase, .state]
  | .lit => [.tracker .L, .out, .remaining, .insertLen, .cmdPhase, .state]
  | .dist => [.tracker .D, .distance, .cmdPhase]
  | .copy => [.distRing, .out, .remaining, .cmdPhase, .state]
  | .dict => [.out, .remaining, .cmdPhase, .state, .work, .rlemax]
  | .wbits16 | .wbits18 | .wbits19 | .wbits20 | .wbits21 | .wbits22 | .wbits23 | .wbits24 | .wbits17 | .wbitsLarge
  | .wbits10 | .wbits11 | .wbits12 | .wbits13 | .wbits14 | .wbits15 => [.wbits, .state]
  | .mhdrLast1Empty1 => [.last, .state]
  | .mhdrLast1Empty0 | .mhdrLast0 => [.last]
  | .mnibbles0 | .mnibbles1 | .mnibbles2 => [.metadata, .work]
  | .mnibbles3 => [.metadata, .state]
  | .mlenNibble _ => [.mlen, .work]
  | .isuncompressed0 | .isuncompressed1 => [.uncompressed, .remaining, .state]
  | .metadataReserved0 | .metadataReserved1 | .pad _ _ _ | .cmapImtf0 => []
  | .npostfix0 | .npostfix1 | .npostfix2 | .npostfix3 => [.npostfix]
  | .ndirect _ => [.ndirect]
  | .cmodeLsb6 | .cmodeMsb6 | .cmodeUtf8 | .cmodeSigned => [.cmode]
  | .cmapRlemax0 | .cmapRlemax _ => [.work, .rlemax]
  | .btype0 c | .btype1 c | .btypeT c _ | .blen0 c | .blen1 c | .blen2 c | .blen3 c | .blen4 c | .blen5 c | .blen6 c
  | .blen7 c | .blen8 c | .blen9 c | .blen10 c | .blen11 c | .blen12 c | .blen13 c | .blen14 c | .blen15 c | .blen16 c
  | .blen17 c | .blen18 c | .blen19 c | .blen20 c | .blen21 c | .blen22 c | .blen23 c | .blen24 c | .blen25 c =>
    [.tracker c]
  | .litB _ => [.out, .remaining, .insertLen, .cmdPhase, .state]
  | .cmdCell0 _ | .cmdCell1 _ | .cmdCell2 _ | .cmdCell3 _ | .cmdCell4 _ | .cmdCell5 _ | .cmdCell6 _ | .cmdCell7 _
  | .cmdCell8 _ | .cmdCell9 _ | .cmdCell10 _ => [.insertLen, .copyLen, .implicitD0, .cmdPhase, .state]
  | .inscode0 | .inscode1 | .inscode2 | .inscode3 | .inscode4 | .inscode5 | .inscode6 | .inscode7 | .inscode8 | .inscode9
  | .inscode10 | .inscode11 | .inscode12 | .inscode13 | .inscode14 | .inscode15 | .inscode16 | .inscode17 | .inscode18
  | .inscode19 | .inscode20 | .inscode21 | .inscode22 | .inscode23 => [.insertLen]
  | .copycode0 | .copycode1 | .copycode2 | .copycode3 | .copycode4 | .copycode5 | .copycode6 | .copycode7 | .copycode8
  | .copycode9 | .copycode10 | .copycode11 | .copycode12 | .copycode13 | .copycode14 | .copycode15 | .copycode16
  | .copycode17 | .copycode18 | .copycode19 | .copycode20 | .copycode21 | .copycode22 | .copycode23 => [.copyLen]
  | .dist0 | .dist1 | .dist2 | .dist3 | .dist4 | .dist5 | .dist6 | .dist7 | .dist8 | .dist9 | .dist10 | .dist11 | .dist12
  | .dist13 | .dist14 | .dist15 | .distDirect _ | .distLong _ => [.distance, .cmdPhase]
  | _ => [.work]

/-- An element's row writes at most its registers, and keeps the cursor in the input. -/
theorem elem_runs (i : Instr) (s : State) : Runs (writes i) s (elem i s) := by
  cases i with
  | streamHeader | mhdr | metadata | uncompressed | setup | cmd | lit | dist | copy | dict => simp [elem, runs_iff]
  | wbitsLarge => exact largeWindow_runs s _ _
  | wbits16 | wbits18 | wbits19 | wbits20 | wbits21 | wbits22 | wbits23 | wbits24 | wbits17 | wbits10 | wbits11 | wbits12
  | wbits13 | wbits14 | wbits15 => exact setWindow_runs s _ _
  | mhdrLast1Empty1 => exact lastEmptyHeader_runs s
  | mhdrLast1Empty0 => exact lastHeader_runs s
  | mhdrLast0 => exact notLastHeader_runs s
  | mnibbles0 | mnibbles1 | mnibbles2 => exact dataNibbles_runs s _
  | mnibbles3 => exact metadataNibbles_runs s
  | mlenNibble x => exact lengthNibble_runs s x
  | isuncompressed0 | isuncompressed1 => exact uncompressedFlag_runs s _
  | metadataReserved0 | cmapImtf0 => exact skip_runs s _ 1
  | metadataReserved1 => exact reservedBitSet_runs s _
  | mskipbytes0 | mskipbytes1 | mskipbytes2 | mskipbytes3 => exact setSkipBytes_runs s _
  | mskiplenByte b => exact skipLengthByte_runs s b
  | pad k n v => exact padding_runs s k n v
  | varlen0 | varlen1 | varlenN1 | varlenN2 | varlenN3 | varlenN4 | varlenN5 | varlenN6 | varlenN7 =>
    exact setCount_runs s _ _
  | npostfix0 | npostfix1 | npostfix2 | npostfix3 => exact setPostfix_runs s _
  | ndirect x => exact setDirect_runs s x
  | cmodeLsb6 | cmodeMsb6 | cmodeUtf8 | cmodeSigned => exact pushMode_runs s _
  | cmapRlemax0 | cmapRlemax => exact setRlemax_runs s _ _
  | cmapImtf1 => exact applyMoveToFront_runs s
  | hskip1 => exact startSimple_runs s
  | hskip0 | hskip2 | hskip3 => exact startComplex_runs s _
  | nsym1 | nsym2 | nsym3 | nsym4 => exact simpleSymbols_runs s _
  | treeselect0 | treeselect1 => exact selectTree_runs s _
  | clcl0 | clcl3 | clcl4 | clcl2 | clcl1 | clcl5 => exact codeLengthLength_runs s _ _
  | clsym0 | clsym1 | clsym2 | clsym3 | clsym4 | clsym5 | clsym6 | clsym7 | clsym8 | clsym9 | clsym10 | clsym11 | clsym12
  | clsym13 | clsym14 | clsym15 => exact literalLength_runs s _
  | clsym16 => exact repeatPrevious_runs s
  | clsym17 => exact repeatZero_runs s
  | btype0 c | btype1 c | btypeT c => exact switchType_runs s c _
  | blen0 c | blen1 c | blen2 c | blen3 c | blen4 c | blen5 c | blen6 c | blen7 c | blen8 c | blen9 c | blen10 c | blen11 c
  | blen12 c | blen13 c | blen14 c | blen15 c | blen16 c | blen17 c | blen18 c | blen19 c | blen20 c | blen21 c | blen22 c
  | blen23 c | blen24 c | blen25 c => exact renewCount_runs s c _
  | cmapsym0 => exact mapZero_runs s
  | cmapsymRun v => exact mapRun_runs s v
  | cmapsymValue v => exact mapValue_runs s v
  | litB b => exact literal_runs s b
  | cmdCell0 sym | cmdCell1 sym | cmdCell2 sym | cmdCell3 sym | cmdCell4 sym | cmdCell5 sym | cmdCell6 sym | cmdCell7 sym
  | cmdCell8 sym | cmdCell9 sym | cmdCell10 sym => exact command_runs s _ sym
  | inscode0 | inscode1 | inscode2 | inscode3 | inscode4 | inscode5 | inscode6 | inscode7 | inscode8 | inscode9 | inscode10
  | inscode11 | inscode12 | inscode13 | inscode14 | inscode15 | inscode16 | inscode17 | inscode18 | inscode19 | inscode20
  | inscode21 | inscode22 | inscode23 => exact insertLength_runs s _
  | copycode0 | copycode1 | copycode2 | copycode3 | copycode4 | copycode5 | copycode6 | copycode7 | copycode8 | copycode9
  | copycode10 | copycode11 | copycode12 | copycode13 | copycode14 | copycode15 | copycode16 | copycode17 | copycode18
  | copycode19 | copycode20 | copycode21 | copycode22 | copycode23 => exact copyLength_runs s _
  | dist0 | dist1 | dist2 | dist3 | dist4 | dist5 | dist6 | dist7 | dist8 | dist9 | dist10 | dist11 | dist12 | dist13
  | dist14 | dist15 => exact shortCode_runs s _
  | distDirect code => exact directCode_runs s code
  | distLong code => exact longCode_runs s code
  | topIdentity | topOmitLast1 | topOmitLast2 | topOmitLast3 | topOmitLast4 | topOmitLast5 | topOmitLast6 | topOmitLast7
  | topOmitLast8 | topOmitLast9 | topUppercaseFirst | topUppercaseAll | topOmitFirst1 | topOmitFirst2 | topOmitFirst3
  | topOmitFirst4 | topOmitFirst5 | topOmitFirst6 | topOmitFirst7 | topOmitFirst8 | topOmitFirst9 | topShiftFirst
  | topShiftAll => exact wordOp_runs s _
  | transformReserved => exact .raise ..
  | dictbucket4 | dictbucket5 | dictbucket6 | dictbucket7 | dictbucket8 | dictbucket9 | dictbucket10 | dictbucket11
  | dictbucket12 | dictbucket13 | dictbucket14 | dictbucket15 | dictbucket16 | dictbucket17 | dictbucket18 | dictbucket19
  | dictbucket20 | dictbucket21 | dictbucket22 | dictbucket23 | dictbucket24 => exact selectWord_runs s _
  | _ =>
    delta elem
    exact wordTransform_runs s _

end
end Sys2Proof.Machine

section
/-! SUPPORT. The frame of every element that a place can hold, and of the operations, which are made of them. -/

namespace Sys2Proof.Machine

/-! ### The decoder's errors -/

theorem walkCode_short {T : PrefixCode} {fuel l c used : Nat} {bits : Bits}
    (h : walkCode T fuel l c bits = .error (.endOfInput used)) : used ≤ l + bits.length := by
  induction fuel generalizing l c bits with
  | zero => cases h
  | succ fuel ih =>
    cases bits with
    | nil => cases h; omega
    | cons b bs =>
      unfold walkCode at h
      split at h
      · cases h
      · have := ih h
        simp only [List.length_cons]
        omega

theorem readBefore_le (f : Field) (a : Nat) : f.readBefore a ≤ a := by
  unfold Field.readBefore
  cases f <;> grind

/-- What is read of an element that the input cuts off lies in the input (40_bitreader.md R97). -/
theorem decode_short {c : Ctx} {bits : Bits} {used : Nat} (h : decode c bits = .error (.endOfInput used)) :
    used ≤ bits.length := by
  cases c with
  | operation st ph b =>
    simp only [decode] at h
    split at h <;> cases h
  | field f =>
    simp only [decode, decodeField] at h
    split at h
    · cases h; exact readBefore_le f _
    · split at h <;> cases h
      exact readBefore_le f _
  | padding k n =>
    simp only [decode] at h
    split at h <;> cases h
    omega
  | symbol a T =>
    simp only [decode] at h
    split at h
    · cases h
      rename_i he
      unfold decodeSymbol at he
      split at he
      · cases he
      · simpa using walkCode_short he
    · split at h <;> cases h
  | entry t v =>
    simp only [decode] at h
    split at h <;> cases h

/-! ### What the element at a place may write -/

def fieldWrites (f : Field) : List Reg :=
  match f with
  | .wbits => [.wbits, .state]
  | .mhdr => [.last, .state]
  | .mnibbles => [.metadata, .work, .state]
  | .mlen => [.mlen, .work]
  | .isUncompressed => [.uncompressed, .remaining, .state]
  | .reserved => []
  | .npostfix => [.npostfix]
  | .ndirect => [.ndirect]
  | .cmode => [.cmode]
  | .rlemax => [.work, .rlemax]
  | .mskipbytes | .mskiplen | .varlen | .imtf | .hskip | .nsym | .treeSelect | .clcl => [.work]

def placeWrites (c : Ctx) : List Reg :=
  match c with
  | .operation _ _ _ | .padding _ _ => []
  | .field f => fieldWrites f
  | .symbol .codeLength _ | .symbol (.contextMap _) _ => [.work]
  | .symbol (.blockType c) _ | .symbol (.blockCount c) _ => [.tracker c]
  | .symbol .literal _ => [.out, .remaining, .insertLen, .cmdPhase, .state]
  | .symbol .command _ => [.insertLen, .copyLen, .implicitD0, .cmdPhase, .state]
  | .symbol (.distance _) _ => [.distance, .cmdPhase]
  | .entry .insertLength _ => [.insertLen]
  | .entry .copyLength _ => [.copyLen]
  | .entry (.transformOp _) _ | .entry .transform _ | .entry .dictBucket _ => [.work]

theorem fieldRows_writes {f : Field} {r : FieldRow} (hr : r ∈ fieldRows f) (x : Nat) :
    writes (r.instr x) ⊆ fieldWrites f := by
  have h : ((fieldRows f).all fun r => decide (writes (r.instr x) ⊆ fieldWrites f)) = true := by
    cases f <;> rfl
  exact of_decide_eq_true (List.all_eq_true.mp h r hr)

theorem symbolRow_writes {a : Alphabet} {T : PrefixCode} {v : Nat} {i : Instr} (h : symbolRow a v = some i) :
    writes i = placeWrites (.symbol a T) := by
  cases a with
  | codeLength =>
    have hrows : codeLengthRows.map writes = List.replicate 18 [.work] := rfl
    exact of_map_eq_replicate hrows (List.mem_of_getElem? h)
  | blockCount c =>
    have hrows : (blockCountRows c).map writes = List.replicate 26 [.tracker c] := rfl
    exact of_map_eq_replicate hrows (List.mem_of_getElem? h)
  | command =>
    have hrows : commandRows.map (fun f => writes (f v)) =
        List.replicate 11 [.insertLen, .copyLen, .implicitD0, .cmdPhase, .state] := rfl
    obtain ⟨f, hf, rfl⟩ := Option.map_eq_some_iff.mp h
    exact of_map_eq_replicate hrows (List.mem_of_getElem? hf)
  | blockType c =>
    simp only [symbolRow] at h
    split_ifs at h <;> cases h <;> rfl
  | contextMap r =>
    simp only [symbolRow] at h
    split_ifs at h <;> cases h <;> rfl
  | literal =>
    simp only [symbolRow] at h
    split_ifs at h
    cases h
    rfl
  | distance d =>
    have hrows : shortDistanceRows.map writes = List.replicate 16 [.distance, .cmdPhase] := rfl
    simp only [symbolRow] at h
    split_ifs at h
    · exact of_map_eq_replicate hrows (List.mem_of_getElem? h)
    all_goals cases h; rfl

theorem entryRow_writes {t : Table} {v : Nat} {i : Instr} (h : entryRow t v = some i) :
    writes i = placeWrites (.entry t v) := by
  cases t with
  | insertLength =>
    have hrows : insertLengthRows.map writes = List.replicate 24 [.insertLen] := rfl
    exact of_map_eq_replicate hrows (List.mem_of_getElem? h)
  | copyLength =>
    have hrows : copyLengthRows.map writes = List.replicate 24 [.copyLen] := rfl
    exact of_map_eq_replicate hrows (List.mem_of_getElem? h)
  | transformOp param =>
    have hrows : (transformOpRows param).map writes = List.replicate 23 [.work] := rfl
    exact of_map_eq_replicate hrows (List.mem_of_getElem? h)
  | transform =>
    have hrows : transformRows.map writes = List.replicate 121 [.work] := rfl
    simp only [entryRow] at h
    split_ifs at h
    · exact of_map_eq_replicate hrows (List.mem_of_getElem? h)
    · cases h; rfl
  | dictBucket =>
    have hrows : dictBucketRows.map writes = List.replicate 21 [.work] := rfl
    simp only [entryRow] at h
    split_ifs at h
    exact of_map_eq_replicate hrows (List.mem_of_getElem? h)

/-- The element that decodes at a place writes at most the place's registers. -/
theorem decode_writes {c : Ctx} {bits : Bits} {i : Instr} {n : Nat} (h : decode c bits = .ok (i, n)) (hi : i ∉ operations) :
    writes i ⊆ placeWrites c := by
  cases c with
  | operation st ph b =>
    simp only [decode] at h
    split at h <;> cases h
    exact absurd (operationRow_mem ‹_›) hi
  | field f =>
    simp only [decode, decodeField] at h
    split at h
    · cases h
    · split at h <;> cases h
      exact fieldRows_writes (List.mem_of_find?_eq_some ‹_›) _
  | padding k m =>
    simp only [decode] at h
    split at h <;> cases h
    exact List.Subset.refl _
  | symbol a code =>
    simp only [decode] at h
    split at h
    · cases h
    split at h <;> cases h
    exact fun r hr => symbolRow_writes ‹_› ▸ hr
  | entry t v =>
    simp only [decode] at h
    split at h <;> cases h
    exact fun r hr => entryRow_writes ‹_› ▸ hr

/-- The effect of an operation as an element is a fault. -/
theorem elem_operation {i : Instr} (hi : i ∈ operations) (s : State) : elem i s = .error (.fault .notEnabled) := by
  simp only [operations, List.mem_cons, List.not_mem_nil, or_false] at hi
  obtain rfl | rfl | rfl | rfl | rfl | rfl | rfl | rfl | rfl | rfl := hi <;> rfl

theorem runElement_runs (c : Ctx) (s : State) : Runs (placeWrites c) s (runElement c s) := by
  unfold runElement
  split
  · rename_i i n h
    by_cases hi : i ∈ operations
    · rw [elem_operation hi]; simp [runs_iff]
    · exact (elem_runs i s).mono (decode_writes h hi)
  · rename_i used h
    refine ⟨ensures_error _, fun _ => ensures_error _, fun hs => (raisesAt_error_raise ..).mpr ?_⟩
    have hused := decode_short h
    rw [State.window_length] at hused
    simp only [State.cursorIn] at hs
    omega
  all_goals simp [runs_iff]

theorem runSymbol_runs (a : Alphabet) (code : Option PrefixCode) (s : State) :
    Runs (placeWrites (.symbol a [])) s (runSymbol a code s) := by
  unfold runSymbol
  split
  · exact (runElement_runs _ s).mono (by cases a <;> exact List.Subset.refl _)
  · simp [runs_iff]

/-! ### The operations -/

section
variable (s : State)

theorem rest_runs : Runs [.work, .rlemax] s (.ok s.rest) := .ok (by simp [frame_iff]) rfl

theorem allocate_runs (W : List Reg) (site : AllocSite) (k : ErrorKind) : Runs W s (allocate site k s) := by
  unfold allocate
  split
  · exact .raise ..
  · exact .pure ..

theorem readSimple_runs : Runs [.work] s (readSimple s) := by
  refine (runElement_runs (.field .nsym) s).bind fun t => ?_
  split
  · exact runElement_runs (.field .treeSelect) t
  · exact .pure ..

theorem checkCodeLengths_runs : Runs [.work] s (checkCodeLengths s) := by
  unfold checkCodeLengths
  dsimp only
  split
  · simp [runs_iff, State.inputBits]
  · exact .raise ..

theorem checkSpace_runs (W : List Reg) : Runs W s (checkSpace s) := by
  unfold checkSpace
  split
  · exact .pure ..
  · exact .raise ..

theorem readComplex_runs : Runs [.work] s (readComplex s) :=
  (Runs.iterateWhile (fun t => runElement_runs (.field .clcl) t) _ _ s).bind fun t => (checkCodeLengths_runs t).bind fun u =>
    (Runs.iterateWhile (fun v => runSymbol_runs .codeLength _ v) _ _ u).bind fun v => checkSpace_runs v _

theorem readPrefixCode_runs (A : Nat) : Runs [.work] s (readPrefixCode A s) := by
  refine .of_frame (t := { s with work := { s.work with alphabet := A } }) (by simp [frame_iff]) rfl <|
    (runElement_runs (.field .hskip) _).bind fun t => ?_
  split
  · exact readSimple_runs t
  · exact readComplex_runs t

theorem readBlockCount_runs (c : Category) : Runs [.tracker c] s (readBlockCount c s) := runSymbol_runs (.blockCount c) _ s

theorem blockSwitch_runs (c : Category) : Runs [.tracker c] s (blockSwitch c s) :=
  (runSymbol_runs (.blockType c) _ s).bind fun t => readBlockCount_runs t c

theorem setTracker_runs (c : Category) (k : Tracker) : Runs [.tracker c] s (.ok (s.setTracker c k)) :=
  .ok (frame_setTracker c k s) (by simp)

theorem countSymbol_runs (c : Category) : Runs [.tracker c] s (countSymbol c s) := by
  unfold countSymbol
  split
  · split
    · exact (blockSwitch_runs s c).bind fun t => setTracker_runs t c _
    · exact setTracker_runs s c _
  · exact .pure ..

/-- The tracker that a block header gives a category of `n` block types before its codes are read (42_metablock.md R141,
R142; 10_state.md R45). -/
def Tracker.fresh (n : Nat) : Tracker :=
  { nbltypes := n, btype := 0, blen := 1 <<< 24, prevType := 1, htreeBtype := [], htreeBlen := [] }

/-- The part of a block header that only a category of several block types has (42_metablock.md R143, R144). -/
def blockCodes (c : Category) (n : Nat) (s : State) : Res State := do
  let s ← allocate .blockTypeTrees .allocBlockTypeTrees s
  let s ← readPrefixCode (n + 2) s
  let s := s.setTracker c { s.tracker c with htreeBtype := s.work.lens }
  let s ← readPrefixCode 26 s
  let s := s.setTracker c { s.tracker c with htreeBlen := s.work.lens }
  readBlockCount c s

theorem blockHeader_eq (c : Category) : blockHeader c s = runElement (.field .varlen) s >>= fun t =>
    if 2 ≤ t.work.count + 1 then blockCodes c (t.work.count + 1) (t.setTracker c (.fresh (t.work.count + 1)))
    else .ok (t.setTracker c (.fresh (t.work.count + 1))) := rfl

theorem blockCodes_runs (c : Category) (n : Nat) : Runs [.tracker c, .work] s (blockCodes c n s) := by
  have hcode (A : Nat) (t : State) : Runs [.tracker c, .work] t (readPrefixCode A t) :=
    (readPrefixCode_runs t A).mono (by simp)
  have htracker (k : Tracker) (t : State) : Frame [.tracker c, .work] t (t.setTracker c k) :=
    (frame_setTracker c k t).mono (by simp)
  exact (allocate_runs ..).bind fun u => (hcode _ u).bind fun v => .of_frame (htracker _ v) (by simp) <|
    (hcode 26 _).bind fun w => .of_frame (htracker _ w) (by simp) <| (readBlockCount_runs _ c).mono (by simp)

theorem blockHeader_runs (c : Category) : Runs [.tracker c, .work] s (blockHeader c s) := by
  rw [blockHeader_eq]
  refine ((runElement_runs (.field .varlen) s).mono (by simp [placeWrites, fieldWrites])).bind fun t =>
    .of_frame ((frame_setTracker c (.fresh (t.work.count + 1)) t).mono (by simp)) (by simp) ?_
  split
  · exact blockCodes_runs ..
  · exact .pure ..

theorem readContextMap_runs (size ntrees : Nat) : Runs [.work, .rlemax] s (readContextMap size ntrees s) :=
  (runElement_runs (.field .rlemax) s).bind fun t => ((readPrefixCode_runs t _).mono (by decide)).bind fun u =>
    .of_frame (W := [.work, .rlemax]) (t := { u with work := { u.work with mapSize := size, map := [] } })
      (by simp [frame_iff]) rfl <|
    (Runs.iterateWhile (fun v => (runSymbol_runs (.contextMap _) _ v).mono (by simp [placeWrites])) _ _ _).bind
      fun w => (runElement_runs (.field .imtf) w).mono (by decide)

theorem contextMap_runs (size : Nat) : Runs [.work, .rlemax] s (contextMap size s) := by
  refine ((runElement_runs (.field .varlen) s).mono (by decide)).bind fun t => (allocate_runs t _ _ _).bind fun u => ?_
  split
  · exact (readContextMap_runs u size _).bind fun v => .ok (by simp [frame_iff]) rfl
  · exact .ok (by simp [frame_iff]) rfl

theorem distanceParameters_runs : Runs [.npostfix, .ndirect] s (distanceParameters s) :=
  ((runElement_runs (.field .npostfix) s).mono (by decide)).bind fun t =>
    (runElement_runs (.field .ndirect) t).mono (by decide)

theorem contextModes_runs : Runs [.cmode] s (contextModes s) :=
  (allocate_runs s _ _ _).bind fun t => .of_frame (t := { t with cmode := [] }) (by simp [frame_iff]) rfl <|
    .iterate (fun u => runElement_runs (.field .cmode) u) _ _

theorem literalMap_runs : Runs [.mapL, .work, .rlemax] s (literalMap s) :=
  ((contextMap_runs s _).mono (by decide)).bind fun t => .ok (by simp [frame_iff]) rfl

theorem distanceMap_runs : Runs [.mapD, .work, .rlemax] s (distanceMap s) :=
  ((contextMap_runs s _).mono (by decide)).bind fun t => .ok (by simp [frame_iff]) rfl

theorem literalTree_runs : Runs [.treesL, .work] s (literalTree s) :=
  ((readPrefixCode_runs s _).mono (by decide)).bind fun t => .ok (by simp [frame_iff]) rfl

theorem commandTree_runs : Runs [.treesI, .work] s (commandTree s) :=
  ((readPrefixCode_runs s _).mono (by decide)).bind fun t => .ok (by simp [frame_iff]) rfl

theorem distanceTree_runs : Runs [.treesD, .work] s (distanceTree s) :=
  ((readPrefixCode_runs s _).mono (by decide)).bind fun t => .ok (by simp [frame_iff]) rfl

theorem treeGroups_runs : Runs [.treesL, .treesI, .treesD, .work] s (treeGroups s) :=
  (allocate_runs s _ _ _).bind fun t =>
    .of_frame (t := { t with htreeL := [], htreeI := [], htreeD := [] }) (by simp [frame_iff]) rfl <|
    (Runs.iterate (fun u => (literalTree_runs u).mono (by decide)) _ _).bind fun u =>
    (Runs.iterate (fun v => (commandTree_runs v).mono (by decide)) _ u).bind fun v =>
    .iterate (fun w => (distanceTree_runs w).mono (by decide)) _ v

theorem opSetup_runs :
    Runs [.tracker .L, .tracker .I, .tracker .D, .npostfix, .ndirect, .cmode, .mapL, .mapD, .treesL, .treesI, .treesD,
      .cmdPhase, .state, .work, .rlemax] s (opSetup s) :=
  ((blockHeader_runs s .L).mono (by decide)).bind fun a => ((blockHeader_runs a .I).mono (by decide)).bind fun b =>
    ((blockHeader_runs b .D).mono (by decide)).bind fun c => ((distanceParameters_runs c).mono (by decide)).bind fun d =>
    ((contextModes_runs d).mono (by decide)).bind fun e => ((literalMap_runs e).mono (by decide)).bind fun f =>
    ((distanceMap_runs f).mono (by decide)).bind fun g => ((treeGroups_runs g).mono (by decide)).bind fun h =>
    .ok (by simp [frame_iff]) rfl

theorem opStreamHeader_runs : Runs [.wbits, .state] s (opStreamHeader s) := by
  have hheader : Runs [.wbits, .state] s (opStreamHeader.header s) := by
    unfold opStreamHeader.header
    split
    · exact .ok (by simp [frame_iff]) rfl
    · exact runElement_runs (.field .wbits) s
  unfold opStreamHeader
  split
  · split
    · exact hheader
    · exact .raise ..
  · exact hheader

theorem opMhdr_runs :
    Runs [.last, .metadata, .uncompressed, .mlen, .remaining, .state, .work, .rlemax] s (opMhdr s) := by
  refine ((runElement_runs (.field .mhdr) s).mono (by decide)).bind fun t => ?_
  split
  · exact .pure ..
  refine ((runElement_runs (.field .mnibbles) t).mono (by decide)).bind fun u => ?_
  split
  · exact .pure ..
  refine (Runs.iterate (fun v => (runElement_runs (.field .mlen) v).mono (by decide)) _ u).bind fun v => ?_
  split
  · exact ((lastIsCompressed_runs v).mono (by decide)).bind fun w => (rest_runs w).mono (by decide)
  · exact ((runElement_runs (.field .isUncompressed) v).mono (by decide)).bind fun w => (rest_runs w).mono (by decide)

theorem opCmd_runs : Runs [.tracker .I, .insertLen, .copyLen, .implicitD0, .cmdPhase, .state] s (opCmd s) :=
  ((countSymbol_runs s .I).mono (by decide)).bind fun t => (runSymbol_runs .command _ t).mono (by decide)

theorem opLit_runs : Runs [.tracker .L, .out, .remaining, .insertLen, .cmdPhase, .state] s (opLit s) :=
  ((countSymbol_runs s .L).mono (by decide)).bind fun t => (runSymbol_runs .literal _ t).mono (by decide)

theorem opDist_runs : Runs [.tracker .D, .distance, .cmdPhase] s (opDist s) := by
  unfold opDist
  split
  · exact .ok (by simp [frame_iff, resolve]) rfl
  · exact ((countSymbol_runs s .D).mono (by decide)).bind fun t =>
      (runSymbol_runs (.distance _) _ t).mono (by simp [placeWrites])

theorem frame_appendAll (bs : List Byte) : Frame [.out] s (s.appendAll bs) := by simp [frame_iff]

theorem copyBackward_runs (d n : Nat) : Runs [.out] s (copyBackward d n s) := by
  induction n generalizing s with
  | zero => exact .pure ..
  | succ n ih =>
    unfold copyBackward
    split
    · exact .of_frame (t := s.append _) (by simp [frame_iff]) rfl (ih _)
    · simp [runs_iff]

theorem opCopy_runs : Runs [.distRing, .out, .remaining, .cmdPhase, .state] s (opCopy s) := by
  have hring (u : State) (hu : u = s ∨ u = { s with distRing := s.distRing.push s.distance.toNat }) :
      Frame [.distRing, .out, .remaining, .cmdPhase, .state] s u ∧ u.bitpos = s.bitpos := by
    obtain rfl | rfl := hu <;> simp [frame_iff]
  unfold opCopy
  extract_lets u
  obtain ⟨hframe, hpos⟩ := hring u (by unfold u; split <;> simp)
  refine .of_frame hframe hpos ?_
  split
  · exact .raise ..
  · exact ((copyBackward_runs u _ _).mono (by decide)).bind fun v =>
      .of_frame (t := { v with remaining := v.remaining - v.copyLen }) (by simp [frame_iff]) rfl <|
      (endOfCommand_runs _).mono (by decide)

theorem opDict_runs : Runs [.out, .remaining, .cmdPhase, .state, .work, .rlemax] s (opDict s) := by
  unfold opDict
  split
  · exact .raise ..
  split
  · exact .raise ..
  refine .of_frame (W := [.out, .remaining, .cmdPhase, .state, .work, .rlemax])
    (t := { s with work := { s.work with wordId := (s.distance - s.maxDist - 1).toNat } }) (by simp [frame_iff]) rfl <|
    ((runElement_runs (.entry .dictBucket _) _).mono (by simp [placeWrites])).bind fun v =>
    ((runElement_runs (.entry .transform _) v).mono (by simp [placeWrites])).bind fun w => ?_
  dsimp only
  split
  · exact .raise ..
  · exact .of_frame (t := { w.appendAll w.work.word with remaining := w.remaining - w.work.word.length })
      (by simp [frame_iff]) (by simp) <|
      ((endOfCommand_runs _).mono (by decide)).bind fun x => (rest_runs x).mono (by decide)

/-! The bodies that read whole bytes start on a byte boundary. -/

theorem aligned_of_padding {k : PadKind} {t : State} (h : runElement (.padding k s.padBits) s = .ok t) :
    t.bitpos % 8 = 0 := by
  obtain ⟨i, n, hd, he⟩ := runElement_ok h
  simp only [decode] at hd
  split at hd <;> cases hd
  obtain ⟨-, -, rfl⟩ := padding_ok he
  have := s.padBits_spec
  simp only [State.advance_bitpos]
  omega

variable {s} (hs : s.bitpos % 8 = 0)
include hs

theorem readBytes_runs (m : Nat) : Runs [.out] s (readBytes m s) := by
  unfold readBytes
  split
  · split
    · refine ⟨?_, fun _ => ?_, ?_⟩
      · simp [frame_iff]
      · simp [State.inputBits]; omega
      · simp
    · simp [runs_iff]
  · exact .raise ..

theorem skipBytes_runs (m : Nat) : Runs [] s (skipBytes m s) := by
  unfold skipBytes
  split
  · refine ⟨?_, fun _ => ?_, ?_⟩
    · simp [frame_iff]
    · simp [State.inputBits]; omega
    · simp
  · exact .raise ..

omit hs
variable (s)

theorem opMetadata_runs : Runs [.state, .work, .rlemax] s (opMetadata s) :=
  ((runElement_runs (.field .reserved) s).mono (by decide)).bind fun t =>
    ((runElement_runs (.field .mskipbytes) t).mono (by decide)).bind fun u =>
    (Runs.iterate (fun v => (runElement_runs (.field .mskiplen) v).mono (by decide)) _ u).bind fun v =>
    ((runElement_runs (.padding .interior _) v).mono (List.nil_subset _)).bind' fun w hw =>
    ((skipBytes_runs (aligned_of_padding v hw) _).mono (by decide)).bind fun x =>
    ((endOfMetaBlock_runs x).mono (by decide)).bind fun y => (rest_runs y).mono (by decide)

theorem opUncompressed_runs : Runs [.out, .remaining, .state] s (opUncompressed s) :=
  ((runElement_runs (.padding .interior _) s).mono (List.nil_subset _)).bind' fun t ht =>
    ((readBytes_runs (aligned_of_padding s ht) _).mono (by decide)).bind fun u =>
    .of_frame (t := { u with remaining := 0 }) (by simp [frame_iff]) rfl <| (endOfMetaBlock_runs _).mono (by decide)

end

end Sys2Proof.Machine
end

section
/-! Obligations O16 and O18. What an instruction leaves unchanged: every register outside its list, and in Error everything but
the record. -/

namespace Sys2Proof.Machine

/-- The effect of an instruction that its meaning delivers: an operation's, or an element's row. -/
def effect (i : Instr) (s : State) : Res State :=
  match i with
  | .streamHeader => opStreamHeader s
  | .mhdr => opMhdr s
  | .metadata => opMetadata s
  | .uncompressed => opUncompressed s
  | .setup => opSetup s
  | .cmd => opCmd s
  | .lit => opLit s
  | .dist => opDist s
  | .copy => opCopy s
  | .dict => opDict s
  | _ => elem i s

theorem effect_element {i : Instr} (hi : i ∉ operations) (s : State) : effect i s = elem i s := by
  unfold effect
  split
  case h_11 => rfl
  all_goals exact absurd (by simp [operations]) hi

theorem effect_runs (i : Instr) (s : State) : Runs (writes i) s (effect i s) := by
  unfold effect
  split
  · exact opStreamHeader_runs s
  · exact opMhdr_runs s
  · exact opMetadata_runs s
  · exact opUncompressed_runs s
  · exact opSetup_runs s
  · exact opCmd_runs s
  · exact opLit_runs s
  · exact opDist_runs s
  · exact opCopy_runs s
  · exact opDict_runs s
  · exact elem_runs i s

/-- A next state is delivered from the instruction's effect. -/
theorem exec_delivers_effect {i : Instr} {s t : State} (h : exec i s = .next t) : deliver s (effect i s) = .next t := by
  by_cases hi : i ∈ operations
  · simp only [operations, List.mem_cons, List.not_mem_nil, or_false] at hi
    obtain rfl | rfl | rfl | rfl | rfl | rfl | rfl | rfl | rfl | rfl := hi
    case inr.inr.inr.inr.inr.inr.inr.inr.inl =>
      replace h : execCopy s = .next t := h
      unfold execCopy at h
      split at h
      · cases h
      · exact (duringPhase_eq_next h).2.2
    case inr.inr.inr.inr.inr.inr.inr.inr.inr =>
      replace h : execDict s = .next t := h
      unfold execDict at h
      split at h
      · exact (duringPhase_eq_next h).2.2
      · cases h
    case inr.inr.inr.inr.inr.inl | inr.inr.inr.inr.inr.inr.inl | inr.inr.inr.inr.inr.inr.inr.inl =>
      exact (duringPhase_eq_next h).2.2
    all_goals exact (during_eq_next h).2
  · rw [effect_element hi]
    obtain he | he := exec_element_cases hi s <;> rw [he] at h
    · exact h
    · cases h

/-- An instruction that leads to a next state completes in its frame, or takes an error. -/
theorem exec_frame {i : Instr} {s t : State} (h : exec i s = .next t) :
    (effect i s = .ok t ∧ Frame (writes i) s t) ∨
    ∃ k m p, effect i s = .error (.raise k m p) ∧ t = takeError k m { s with bitpos := p } := by
  obtain h | h := deliver_eq_next (exec_delivers_effect h)
  · exact .inl ⟨h, (effect_runs i s).frame t h⟩
  · exact .inr h

/-- The instructions that leave a register alone, as O16 and O18 name them. -/
def Reg.free (r : Reg) (i : Instr) : Prop :=
  match r with
  | .wbits => i ≠ .streamHeader ∧ ∀ b w x, i.row ≠ .field .wbits b w x
  | .last => i ≠ .mhdr ∧ ∀ b w x, i.row ≠ .field .mhdr b w x
  | .metadata => i ≠ .mhdr ∧ ∀ b w x, i.row ≠ .field .mnibbles b w x
  | .uncompressed => i ≠ .mhdr ∧ ∀ b w x, i.row ≠ .field .isUncompressed b w x
  | .mlen => i ≠ .mhdr ∧ ∀ b w x, i.row ≠ .field .mlen b w x
  | .remaining =>
    i ∉ [.mhdr, .isuncompressed0, .isuncompressed1, .uncompressed, .lit, .copy, .dict] ∧ ∀ b, i ≠ .litB b
  | .npostfix => i ≠ .setup ∧ ∀ b w x, i.row ≠ .field .npostfix b w x
  | .ndirect => i ≠ .setup ∧ ∀ b w x, i.row ≠ .field .ndirect b w x
  | .cmode => i ≠ .setup ∧ ∀ b w x, i.row ≠ .field .cmode b w x
  | .mapL | .mapD | .treesL | .treesI | .treesD => i ≠ .setup
  | .tracker c =>
    (i ∉ [.setup, .cmd, .lit, .dist] ∧ (∀ c, i ∉ [.btype0 c, .btype1 c] ++ blockCountRows c) ∧
      ∀ c u, i ≠ .btypeT c u) ∨
    (i = .cmd ∧ c ≠ .I) ∨ (i = .lit ∧ c ≠ .L) ∨ (i = .dist ∧ c ≠ .D)
  | .insertLen =>
    i ≠ .cmd ∧ i ≠ .lit ∧ (∀ b, i ≠ .litB b) ∧ (∀ f sym, f ∈ commandRows → i ≠ f sym) ∧ i ∉ insertLengthRows
  | .copyLen => i ≠ .cmd ∧ (∀ f sym, f ∈ commandRows → i ≠ f sym) ∧ i ∉ copyLengthRows
  | .implicitD0 => i ≠ .cmd ∧ ∀ f sym, f ∈ commandRows → i ≠ f sym
  | .distance => i ≠ .dist ∧ i ∉ shortDistanceRows ∧ ∀ k, i ≠ .distDirect k ∧ i ≠ .distLong k
  | .cmdPhase =>
    i ∉ [.setup, .cmd, .lit, .dist, .copy, .dict] ∧ (∀ b, i ≠ .litB b) ∧ (∀ f sym, f ∈ commandRows → i ≠ f sym) ∧
      i ∉ shortDistanceRows ∧ ∀ k, i ≠ .distDirect k ∧ i ≠ .distLong k
  | .state =>
    i ∉ [.streamHeader, .mhdr, .metadata, .uncompressed, .setup, .cmd, .lit, .copy, .dict] ∧
      (∀ b w x, i.row ≠ .field .wbits b w x) ∧
      i ∉ [.mhdrLast1Empty1, .mnibbles3, .isuncompressed0, .isuncompressed1] ∧ (∀ b, i ≠ .litB b) ∧
      ∀ f sym, f ∈ commandRows → i ≠ f sym
  | .out => (∀ b, i ≠ .litB b) ∧ i ≠ .lit ∧ i ≠ .copy ∧ i ≠ .dict ∧ i ≠ .uncompressed
  | .distRing => i ≠ .copy
  | .work | .rlemax => False

section
variable {i : Instr}

/-! A row in a register's list is one that writes it: by the kinds of rows. -/

theorem wbits_not_free {b : Bits} {w x : Nat} (h : i.row = .field .wbits b w x) :
    ∀ r ∈ [Reg.wbits, .state], ¬r.free i := by simp [Reg.free, h]
theorem last_not_free {b : Bits} {w x : Nat} (h : i.row = .field .mhdr b w x) : ∀ r ∈ [Reg.last], ¬r.free i := by
  simp [Reg.free, h]
theorem metadata_not_free {b : Bits} {w x : Nat} (h : i.row = .field .mnibbles b w x) :
    ∀ r ∈ [Reg.metadata, .work], ¬r.free i := by simp [Reg.free, h]
theorem mlen_not_free {b : Bits} {w x : Nat} (h : i.row = .field .mlen b w x) :
    ∀ r ∈ [Reg.mlen, .work], ¬r.free i := by simp [Reg.free, h]
theorem npostfix_not_free {b : Bits} {w x : Nat} (h : i.row = .field .npostfix b w x) :
    ∀ r ∈ [Reg.npostfix], ¬r.free i := by simp [Reg.free, h]
theorem ndirect_not_free {b : Bits} {w x : Nat} (h : i.row = .field .ndirect b w x) :
    ∀ r ∈ [Reg.ndirect], ¬r.free i := by simp [Reg.free, h]
theorem cmode_not_free {b : Bits} {w x : Nat} (h : i.row = .field .cmode b w x) :
    ∀ r ∈ [Reg.cmode], ¬r.free i := by simp [Reg.free, h]
theorem tracker_not_free {c : Category} (h : i ∈ [.btype0 c, .btype1 c] ++ blockCountRows c ∨ ∃ u, i = .btypeT c u)
    (hi : i ∉ operations) : ∀ r ∈ [Reg.tracker c], ¬r.free i := by
  rintro _ (_ | ⟨_, ⟨⟩⟩) (⟨-, hrow, ht⟩ | ⟨rfl, -⟩ | ⟨rfl, -⟩ | ⟨rfl, -⟩)
  · obtain h | ⟨u, hu⟩ := h
    · exact hrow c h
    · exact ht c u hu
  all_goals exact hi (by simp [operations])
theorem insertLen_not_free (h : i ∈ insertLengthRows) : ∀ r ∈ [Reg.insertLen], ¬r.free i := by simp [Reg.free, h]
theorem copyLen_not_free (h : i ∈ copyLengthRows) : ∀ r ∈ [Reg.copyLen], ¬r.free i := by simp [Reg.free, h]
theorem command_not_free {f : Nat → Instr} {sym : Nat} (h : f ∈ commandRows) (hi : i = f sym) :
    ∀ r ∈ [Reg.insertLen, .copyLen, .implicitD0, .cmdPhase, .state], ¬r.free i := by
  have hf : ¬∀ f sym, f ∈ commandRows → i ≠ f sym := fun h' => h' f sym h hi
  simp [Reg.free, hf]
theorem distance_not_free (h : i ∈ shortDistanceRows ∨ ∃ k, i = .distDirect k ∨ i = .distLong k) :
    ∀ r ∈ [Reg.distance, .cmdPhase], ¬r.free i := by
  have hf : ¬(i ∉ shortDistanceRows ∧ ∀ k, i ≠ .distDirect k ∧ i ≠ .distLong k) := by
    rintro ⟨hs, hk⟩
    obtain h | ⟨k, rfl | rfl⟩ := h
    · exact hs h
    · exact (hk k).1 rfl
    · exact (hk k).2 rfl
  rintro _ (_ | ⟨_, _ | ⟨_, ⟨⟩⟩⟩)
  · exact fun ⟨_, h'⟩ => hf h'
  · exact fun ⟨_, _, _, h'⟩ => hf h'
theorem rlemax_not_free : ∀ r ∈ [Reg.work, .rlemax], ¬r.free i := by simp [Reg.free]
theorem work_not_free : ∀ r ∈ [Reg.work], ¬r.free i := by simp [Reg.free]

end

/-- An instruction that a claim lets alone a register does not have it in its list. -/
theorem not_free_of_mem_writes (i : Instr) : ∀ r ∈ writes i, ¬r.free i := by
  cases i with
  | streamHeader | mhdr | metadata | uncompressed | setup | cmd | lit | dist | copy | dict | mhdrLast1Empty1 | mnibbles3
  | isuncompressed0 | isuncompressed1 | litB =>
    delta writes
    simp [Reg.free, Instr.row]
  | metadataReserved0 | metadataReserved1 | pad | cmapImtf0 => exact fun _ => nofun
  | wbits16 | wbits18 | wbits19 | wbits20 | wbits21 | wbits22 | wbits23 | wbits24 | wbits17 | wbitsLarge
  | wbits10 | wbits11 | wbits12 | wbits13 | wbits14 | wbits15 => exact wbits_not_free rfl
  | mhdrLast1Empty0 | mhdrLast0 => exact last_not_free rfl
  | mnibbles0 | mnibbles1 | mnibbles2 => exact metadata_not_free rfl
  | mlenNibble => exact mlen_not_free rfl
  | npostfix0 | npostfix1 | npostfix2 | npostfix3 => exact npostfix_not_free rfl
  | ndirect => exact ndirect_not_free rfl
  | cmodeLsb6 | cmodeMsb6 | cmodeUtf8 | cmodeSigned => exact cmode_not_free rfl
  | cmapRlemax0 | cmapRlemax => exact rlemax_not_free
  | btype0 c | btype1 c | btypeT c | blen0 c | blen1 c | blen2 c | blen3 c | blen4 c | blen5 c | blen6 c | blen7 c | blen8 c
  | blen9 c | blen10 c | blen11 c | blen12 c | blen13 c | blen14 c | blen15 c | blen16 c | blen17 c | blen18 c | blen19 c
  | blen20 c | blen21 c | blen22 c | blen23 c | blen24 c | blen25 c =>
    exact tracker_not_free (by simp [blockCountRows]) (by simp [operations])
  | cmdCell0 sym | cmdCell1 sym | cmdCell2 sym | cmdCell3 sym | cmdCell4 sym | cmdCell5 sym | cmdCell6 sym | cmdCell7 sym
  | cmdCell8 sym | cmdCell9 sym | cmdCell10 sym => exact command_not_free (by simp [commandRows]) rfl
  | inscode0 | inscode1 | inscode2 | inscode3 | inscode4 | inscode5 | inscode6 | inscode7 | inscode8 | inscode9 | inscode10
  | inscode11 | inscode12 | inscode13 | inscode14 | inscode15 | inscode16 | inscode17 | inscode18 | inscode19 | inscode20
  | inscode21 | inscode22 | inscode23 => exact insertLen_not_free (by simp [insertLengthRows])
  | copycode0 | copycode1 | copycode2 | copycode3 | copycode4 | copycode5 | copycode6 | copycode7 | copycode8 | copycode9
  | copycode10 | copycode11 | copycode12 | copycode13 | copycode14 | copycode15 | copycode16 | copycode17 | copycode18
  | copycode19 | copycode20 | copycode21 | copycode22 | copycode23 => exact copyLen_not_free (by simp [copyLengthRows])
  | dist0 | dist1 | dist2 | dist3 | dist4 | dist5 | dist6 | dist7 | dist8 | dist9 | dist10 | dist11 | dist12 | dist13
  | dist14 | dist15 => exact distance_not_free (.inl (by simp [shortDistanceRows]))
  | distDirect k => exact distance_not_free (.inr ⟨k, .inl rfl⟩)
  | distLong k => exact distance_not_free (.inr ⟨k, .inr rfl⟩)
  | _ => exact work_not_free

section
variable {i : Instr} {s t : State}

/-- A register that the instruction leaves alone holds the same after it; the decoder state changes to Error also where an
error is taken. -/
theorem exec_same (h : exec i s = .next t) {r : Reg} (hr : r.free i) (ht : r = .state → t.state ≠ .error) :
    r.same s t := by
  obtain ⟨-, hframe⟩ | ⟨k, m, p, -, rfl⟩ := exec_frame h
  · exact hframe.same r fun hmem => not_free_of_mem_writes i r hmem hr
  · cases r with
    | state => exact absurd rfl (ht rfl)
    | _ => simp [State.tracker]

theorem exec_err (h : exec i s = .next t) (ht : t.state ≠ .error) : t.err = s.err := by
  obtain ⟨-, hframe⟩ | ⟨k, m, p, -, rfl⟩ := exec_frame h
  · exact hframe.err
  · exact absurd rfl ht

theorem exec_appends (h : exec i s = .next t) : Appends s.out t.out := by
  obtain ⟨-, hframe⟩ | ⟨k, m, p, -, rfl⟩ := exec_frame h
  · exact hframe.appends
  · exact .refl _

end

/-- Settles O16: in its frame an instruction only appends, and one without the output in its list not even that. -/
theorem outputOnlyGrowsAtItsEnd : Obligations.OutputOnlyGrowsAtItsEnd := by
  intro i s t h
  obtain ⟨bs, hbs⟩ := (exec_appends h).eq_appendAll
  refine ⟨⟨bs, hbs⟩, fun a ha => hbs ▸ State.read_appendAll_of_lt s bs ha, fun hb hl hc hd hu => ?_⟩
  exact exec_same h (r := .out) ⟨hb, hl, hc, hd, hu⟩ nofun

/-- Settles O18: each clause is a register that its instructions leave alone. -/
theorem registersAreWrittenOnlyByTheirOwn : Obligations.RegistersAreWrittenOnlyByTheirOwn := by
  intro i s t h
  have same (r : Reg) (hr : r.free i) (hne : r ≠ .state := by decide) : r.same s t := exec_same h hr (absurd · hne)
  refine ⟨fun a b => same .wbits ⟨a, b⟩, fun a b => same .last ⟨a, b⟩, fun a b => same .metadata ⟨a, b⟩,
    fun a b => same .uncompressed ⟨a, b⟩, fun a b => same .mlen ⟨a, b⟩, fun a b => same .remaining ⟨a, b⟩,
    fun a b => same .npostfix ⟨a, b⟩, fun a b => same .ndirect ⟨a, b⟩, fun a b => same .cmode ⟨a, b⟩, fun a => ?_,
    fun a b c => ?_, fun a => ?_, fun a => ?_, fun a => ?_, fun a b c d e => same .insertLen ⟨a, b, c, d, e⟩,
    fun a b c => same .copyLen ⟨a, b, c⟩, fun a b => same .implicitD0 ⟨a, b⟩, fun a b c => same .distance ⟨a, b, c⟩,
    fun a b c d e => same .cmdPhase ⟨a, b, c, d, e⟩,
    fun ht a b c d e => exec_same h (r := .state) ⟨a, b, c, d, e⟩ fun _ => ht, exec_err h⟩
  · obtain ⟨hnL, hmL⟩ := same .mapL a
    obtain ⟨hnD, hmD⟩ := same .mapD a
    exact ⟨hnL, hmL, hnD, hmD, same .treesL a, same .treesI a, same .treesD a⟩
  · exact ⟨same (.tracker .L) (.inl ⟨a, b, c⟩), same (.tracker .I) (.inl ⟨a, b, c⟩), same (.tracker .D) (.inl ⟨a, b, c⟩)⟩
  · have hi : i = .cmd := List.mem_singleton.mp a
    exact ⟨same (.tracker .L) (.inr (.inl ⟨hi, by decide⟩)), same (.tracker .D) (.inr (.inl ⟨hi, by decide⟩))⟩
  · have hi : i = .lit := List.mem_singleton.mp a
    exact ⟨same (.tracker .I) (.inr (.inr (.inl ⟨hi, by decide⟩))), same (.tracker .D) (.inr (.inr (.inl ⟨hi, by decide⟩)))⟩
  · have hi : i = .dist := List.mem_singleton.mp a
    exact ⟨same (.tracker .L) (.inr (.inr (.inr ⟨hi, by decide⟩))), same (.tracker .I) (.inr (.inr (.inr ⟨hi, by decide⟩)))⟩

end Sys2Proof.Machine
end

section
/-! SUPPORT. What an element that is read can be: the rows of a field with operands in their width, the effect of a symbol by its
value, and the symbols of a code, which lie in its alphabet. -/

namespace Sys2Proof.Machine

theorem valueOf_lt (bs : Bits) : valueOf bs < 2 ^ bs.length := by
  induction bs with
  | nil => simp [valueOf]
  | cons b bs ih =>
    simp only [valueOf, List.length_cons, Nat.pow_succ]
    cases b <;> simp <;> omega

/-- A field that is read is one of its rows, with an operand of the row's width. -/
theorem ensures_runField {P : State → Prop} {f : Field} {s : State}
    (h : ∀ r ∈ fieldRows f, ∀ x < 2 ^ r.width, Ensures P (elem (r.instr x) s)) : Ensures P (runElement (.field f) s) := by
  intro t ht
  obtain ⟨i, n, hd, he⟩ := runElement_ok ht
  simp only [decode, decodeField] at hd
  split at hd
  · cases hd
  rename_i r hr
  split at hd <;> cases hd
  refine h r (List.mem_of_find?_eq_some hr) _ ?_ t he
  refine lt_of_lt_of_le (valueOf_lt _) (Nat.pow_le_pow_right (by decide) ?_)
  simp

/-- The effect of the symbol of a value in its alphabet (30_encoding.md R77 to R85, R92). -/
def symbolEffect (a : Alphabet) (v : Nat) (s : State) : Res State :=
  match a with
  | .codeLength => if v < 16 then literalLength v s else if v = 16 then repeatPrevious s else repeatZero s
  | .blockType c => switchType c v s
  | .blockCount c => renewCount c v s
  | .contextMap rlemax => if v = 0 then mapZero s else if v ≤ rlemax then mapRun v s else mapValue v s
  | .literal => literal (BitVec.ofNat 8 v) s
  | .command => command (v / 64) v s
  | .distance ndirect => if v < 16 then shortCode v s else if v < 16 + ndirect then directCode v s else longCode v s

/-- What holds of each row of a list holds of the row at an index. -/
theorem of_rows {rows : List Instr} {f : Nat → Res State} {s : State}
    (h : rows.map (elem · s) = (List.range rows.length).map f) {v : Nat} {i : Instr} (hi : rows[v]? = some i) :
    elem i s = f v := by
  obtain ⟨hv, rfl⟩ := List.getElem?_eq_some_iff.mp hi
  have := congrArg (·[v]?) h
  simpa [hv] using this

theorem elem_symbolRow {a : Alphabet} {v : Nat} {i : Instr} (h : symbolRow a v = some i) (s : State) :
    elem i s = symbolEffect a v s := by
  cases a with
  | codeLength => exact of_rows (rows := codeLengthRows) (f := fun v => symbolEffect .codeLength v s) rfl h
  | blockCount c => exact of_rows (rows := blockCountRows c) (f := fun v => renewCount c v s) rfl h
  | command =>
    obtain ⟨f, hf, rfl⟩ := Option.map_eq_some_iff.mp h
    exact of_rows (rows := commandRows.map (· v)) (f := fun n => command n v s) rfl (by simp [hf])
  | blockType c =>
    simp only [symbolRow] at h
    split_ifs at h <;> cases h
    · subst v; rfl
    · subst v; rfl
    · rfl
  | contextMap r =>
    simp only [symbolRow] at h
    split_ifs at h <;> cases h <;> simp only [symbolEffect, *] <;> rfl
  | literal =>
    simp only [symbolRow] at h
    split_ifs at h
    cases h
    rfl
  | distance d =>
    simp only [symbolRow] at h
    split_ifs at h
    · simp only [symbolEffect, *, if_true]
      exact of_rows (rows := shortDistanceRows) (f := fun v => shortCode v s) rfl h
    all_goals cases h; simp only [symbolEffect, *]; rfl

/-! ### The symbols of a code -/

theorem positionsOf_lt {l : Nat} {T : List Nat} {i p : Nat} (h : p ∈ positionsOf l T i) : p < i + T.length := by
  induction T generalizing i with
  | nil => cases h
  | cons x xs ih =>
    unfold positionsOf at h
    simp only [List.length_cons]
    split at h
    · cases h with
      | head => omega
      | tail _ h => have := ih h; omega
    · have := ih h; omega

theorem usedSymbols_lt {T : List Nat} {i p : Nat} (h : p ∈ usedSymbols T i) : p < i + T.length := by
  induction T generalizing i with
  | nil => cases h
  | cons x xs ih =>
    unfold usedSymbols at h
    simp only [List.length_cons]
    split at h
    · have := ih h; omega
    · cases h with
      | head => omega
      | tail _ h => have := ih h; omega

theorem oneSymbol_lt {T : PrefixCode} {v : Nat} (h : oneSymbol T = some v) : v < T.length := by
  unfold oneSymbol at h
  split at h
  · rename_i heq
    cases h
    simpa using usedSymbols_lt (T := T) (i := 0) (p := v) (by simp [heq])
  · cases h

theorem symbolAt_lt {T : PrefixCode} {l c v : Nat} (h : symbolAt T l c = some v) : v < T.length := by
  unfold symbolAt at h
  split at h
  · simpa using positionsOf_lt (List.mem_of_getElem? h)
  · cases h

theorem walkCode_lt {T : PrefixCode} {fuel l c v n : Nat} {bits : Bits} (h : walkCode T fuel l c bits = .ok (v, n)) :
    v < T.length := by
  induction fuel generalizing l c bits with
  | zero => cases h
  | succ fuel ih =>
    cases bits with
    | nil => cases h
    | cons b bs =>
      unfold walkCode at h
      split at h
      · cases h; exact symbolAt_lt ‹_›
      · exact ih h

/-- A decoded symbol lies in the code's alphabet (41_prefix_codes.md R123). -/
theorem decodeSymbol_lt {T : PrefixCode} {bits : Bits} {v n : Nat} (h : decodeSymbol T bits = .ok (v, n)) :
    v < T.length := by
  unfold decodeSymbol at h
  split at h
  · cases h; exact oneSymbol_lt ‹_›
  · exact walkCode_lt h

/-- A symbol that is read lies in the code's alphabet, and its effect is that of its value. -/
theorem ensures_runCode {P : State → Prop} {a : Alphabet} {code : Option PrefixCode} {s : State}
    (h : ∀ T, code = some T → ∀ v < T.length, (symbolRow a v).isSome = true → Ensures P (symbolEffect a v s)) :
    Ensures P (runSymbol a code s) := by
  intro t ht
  obtain ⟨T, i, n, hT, hd, he⟩ := runSymbol_ok ht
  simp only [decode] at hd
  split at hd
  · cases hd
  rename_i v m hv
  split at hd <;> cases hd
  rename_i hrow
  rw [elem_symbolRow hrow] at he
  exact h T hT v (decodeSymbol_lt hv) (by simp [hrow]) t he

end Sys2Proof.Machine
end

section
/-! SUPPORT. Every prefix code that is read is valid (41_prefix_codes.md R104 to R118): a simple code by its few lengths, a complex
code because the code space left is the complement of what its lengths take. -/

namespace Sys2Proof.Machine

/-! ### The code space -/

/-- The share of one length in the code space (41_prefix_codes.md R117). -/
def kraftOf (l : Nat) : Nat := if l = 0 then 0 else 2 ^ (15 - l)

@[simp] theorem kraftOf_zero : kraftOf 0 = 0 := rfl

theorem kraft_eq (T : PrefixCode) : kraft T = (T.map kraftOf).sum := rfl

@[simp] theorem kraft_replicate (n l : Nat) : kraft (List.replicate n l) = n * kraftOf l := by
  simp [kraft_eq]

/-- Giving an unused symbol a length takes that length's share. -/
theorem kraft_set {T : PrefixCode} {i : Nat} (l : Nat) (h : T[i]? = some 0) : kraft (T.set i l) = kraft T + kraftOf l := by
  induction T generalizing i with
  | nil => simp at h
  | cons x xs ih =>
    cases i with
    | zero =>
      obtain rfl : x = 0 := by simpa using h
      simp [kraft_eq, kraftOf]
      omega
    | succ i =>
      have := ih (i := i) (by simpa using h)
      simp only [kraft_eq, List.set_cons_succ, List.map_cons, List.sum_cons] at this ⊢
      omega

theorem validCode_iff {A : Nat} {T : PrefixCode} : validCode A T = true ↔
    T.length = A ∧ (∀ l ∈ T, l ≤ 15) ∧ ((oneSymbol T).isSome = true ∨ kraft T = 32768) := by
  simp [validCode, and_assoc]

/-! ### Simple codes -/

theorem usedSymbols_replicate_zero (n i : Nat) : usedSymbols (List.replicate n 0) i = [] := by
  induction n generalizing i with
  | zero => rfl
  | succ n ih => simp [List.replicate_succ, usedSymbols, ih]

theorem usedSymbols_set {n v l : Nat} (hv : v < n) (hl : l ≠ 0) (i : Nat) :
    usedSymbols ((List.replicate n 0).set v l) i = [i + v] := by
  induction n generalizing v i with
  | zero => omega
  | succ n ih =>
    cases v with
    | zero => simp [List.replicate_succ, usedSymbols, hl, usedSymbols_replicate_zero]
    | succ v =>
      have := ih (v := v) (by omega) (i + 1)
      simp [List.replicate_succ, usedSymbols, this]
      omega

@[simp] theorem length_lengthsOf (A : Nat) (ps : List (Nat × Nat)) : (lengthsOf A ps).length = A := by
  unfold lengthsOf
  have h (T : PrefixCode) : (ps.foldl (fun T p => T.set p.1 p.2) T).length = T.length := by
    induction ps generalizing T with
    | nil => rfl
    | cons p ps ih => simp [ih]
  simp [h]

/-- The lengths of distinct symbols take the sum of their shares (41_prefix_codes.md R107). -/
theorem kraft_foldl_set {ps : List (Nat × Nat)} {T : PrefixCode} (hd : (ps.map Prod.fst).Nodup)
    (h0 : ∀ p ∈ ps, T[p.1]? = some 0) :
    kraft (ps.foldl (fun T p => T.set p.1 p.2) T) = kraft T + (ps.map fun p => kraftOf p.2).sum := by
  induction ps generalizing T with
  | nil => simp
  | cons p ps ih =>
    obtain ⟨hp, hd⟩ := List.nodup_cons.mp hd
    rw [List.foldl_cons, ih hd, kraft_set _ (h0 p (by simp))]
    · simp; omega
    · intro q hq
      have hne : p.1 ≠ q.1 := fun he => hp (he ▸ List.mem_map_of_mem hq)
      rw [List.getElem?_set_ne hne]
      exact h0 q (by simp [hq])

theorem kraft_lengthsOf {A : Nat} {ps : List (Nat × Nat)} (hd : (ps.map Prod.fst).Nodup) (hA : ∀ p ∈ ps, p.1 < A) :
    kraft (lengthsOf A ps) = (ps.map fun p => kraftOf p.2).sum := by
  rw [lengthsOf, kraft_foldl_set hd fun p hp => by simp [hA p hp]]
  simp

theorem mem_foldl_set {l : Nat} {ps : List (Nat × Nat)} {T : PrefixCode}
    (h : l ∈ ps.foldl (fun T p => T.set p.1 p.2) T) : l ∈ T ∨ ∃ p ∈ ps, p.2 = l := by
  induction ps generalizing T with
  | nil => exact .inl h
  | cons p ps ih =>
    obtain hT | ⟨q, hq, rfl⟩ := ih h
    · obtain hT | rfl := List.mem_or_eq_of_mem_set hT
      · exact .inl hT
      · exact .inr ⟨p, by simp, rfl⟩
    · exact .inr ⟨q, by simp [hq], rfl⟩

theorem mem_lengthsOf {A l : Nat} {ps : List (Nat × Nat)} (h : l ∈ lengthsOf A ps) : l = 0 ∨ ∃ p ∈ ps, p.2 = l :=
  (mem_foldl_set h).imp_left List.eq_of_mem_replicate

/-- The lengths of a simple code's `n` symbols fill the code space, but for one symbol alone (41_prefix_codes.md R107). -/
theorem simpleLengths_spec {n : Nat} (b : Bool) (h1 : 1 ≤ n) (h4 : n ≤ 4) :
    (simpleLengths n b).length = n ∧ (∀ l ∈ simpleLengths n b, l ≤ 15) ∧
    (n ≠ 1 → ((simpleLengths n b).map kraftOf).sum = 32768) := by
  obtain rfl | rfl | rfl | rfl : n = 1 ∨ n = 2 ∨ n = 3 ∨ n = 4 := by omega
  all_goals cases b <;> decide

theorem validCode_simple {A : Nat} {syms : List Nat} (b : Bool) (h1 : 1 ≤ syms.length) (h4 : syms.length ≤ 4)
    (hd : syms.Nodup) (hA : ∀ v ∈ syms, v < A) :
    validCode A (lengthsOf A (syms.zip (simpleLengths syms.length b))) = true := by
  obtain ⟨hlen, h15, hsum⟩ := simpleLengths_spec b h1 h4
  refine validCode_iff.mpr ⟨length_lengthsOf .., fun l hl => ?_, ?_⟩
  · obtain rfl | ⟨p, hp, rfl⟩ := mem_lengthsOf hl
    · exact Nat.zero_le _
    · exact h15 _ (List.of_mem_zip hp).2
  by_cases hone : syms.length = 1
  · obtain ⟨v, rfl⟩ := List.length_eq_one_iff.mp hone
    have hv : v < A := hA v (by simp)
    left
    simp [simpleLengths, lengthsOf, oneSymbol, usedSymbols_set hv]
  · right
    have hkeys : (syms.zip (simpleLengths syms.length b)).map Prod.fst = syms := List.map_fst_zip (by omega)
    have hvals : (syms.zip (simpleLengths syms.length b)).map Prod.snd = simpleLengths syms.length b :=
      List.map_snd_zip (by omega)
    rw [kraft_lengthsOf (by rwa [hkeys]) fun p hp => hA _ (List.of_mem_zip hp).1, ← hsum hone, ← hvals,
      List.map_map, hvals]
    rfl

/-- While a prefix code over `A` symbols is read: the alphabet is set, and the simple code's symbols so far lie in it. -/
def State.readsSyms (A n : Nat) (s : State) : Prop :=
  s.work.alphabet = A ∧ s.work.syms.length = n ∧ ∀ v ∈ s.work.syms, v < A

theorem simpleSymbol_readsSyms {A n : Nat} {s : State} (hs : s.readsSyms A n) :
    Ensures (State.readsSyms A (n + 1)) (simpleSymbol s) := by
  obtain ⟨hA, hn, hv⟩ := hs
  simp only [simpleSymbol, ensures_bind, ensures_readBits, ensures_ite, ensures_raise, Res.pure_eq, ensures_ok,
    State.advance_work]
  refine fun _ => ⟨fun _ => trivial, fun hlt => ⟨hA, by simp [hn], fun v hmem => ?_⟩⟩
  obtain hmem | rfl := by simpa using hmem
  · exact hv v hmem
  · omega

/-- A property with a counter that every turn of a loop advances. -/
theorem ensures_iterate_count {P : Nat → State → Prop} {f : State → Res State} {n : Nat}
    (hf : ∀ k < n, ∀ s, P k s → Ensures (P (k + 1)) (f s)) {s : State} (hs : P 0 s) :
    Ensures (P n) (iterate n f s) := by
  induction n generalizing P s with
  | zero => exact (ensures_ok s).mpr hs
  | succ n ih =>
    refine (hf 0 (by omega) s hs).bind fun t ht => ?_
    exact ih (P := fun k => P (k + 1)) (fun k hk u hu => hf (k + 1) (by omega) u hu) ht

/-- What a simple code's symbols leave: a valid code, or four symbols that wait for the tree-select bit. -/
def State.simpleRead (A : Nat) (s : State) : Prop :=
  if s.work.syms.length = 4 then s.readsSyms A 4 ∧ s.work.syms.Nodup else validCode A s.work.lens = true

theorem simpleSymbols_simpleRead {A n : Nat} {s : State} (h1 : 1 ≤ n) (h4 : n ≤ 4) (hA : s.work.alphabet = A) :
    Ensures (State.simpleRead A) (simpleSymbols n s) := by
  refine Ensures.bind (P := fun t => t.work.alphabet = A) (by simp [hA]) fun t ht => ?_
  have hloop : Ensures (State.readsSyms A n) (iterate n simpleSymbol { t with work := { t.work with syms := [] } }) :=
    ensures_iterate_count (fun k _ s => simpleSymbol_readsSyms) ⟨ht, rfl, by simp⟩
  refine hloop.bind fun u ⟨hAu, hnu, hvu⟩ => ?_
  simp only [ensures_ite, ensures_raise, Res.pure_eq, ensures_ok, implies_true, and_true]
  intro hd
  unfold State.simpleRead
  by_cases hn : n = 4
  · subst hn
    simp only [Nat.lt_irrefl, if_false, hnu, if_true]
    exact ⟨⟨hAu, hnu, hvu⟩, hd⟩
  · have hlt : n < 4 := by omega
    simp only [hlt, if_true, assignSimple, hnu, hn, if_false, hAu]
    rw [← hnu]
    exact validCode_simple false (by omega) (by omega) hd hvu

theorem readSimple_valid {A : Nat} {s : State} (hA : s.work.alphabet = A) :
    Ensures (fun t => validCode A t.work.lens = true) (readSimple s) := by
  have hsyms : Ensures (State.simpleRead A) (runElement (.field .nsym) s) := by
    refine ensures_runField ?_
    simp only [fieldRows, bare, List.forall_mem_cons, List.not_mem_nil, IsEmpty.forall_iff, implies_true, and_true]
    exact ⟨fun _ _ => simpleSymbols_simpleRead (by decide) (by decide) hA,
      fun _ _ => simpleSymbols_simpleRead (by decide) (by decide) hA,
      fun _ _ => simpleSymbols_simpleRead (by decide) (by decide) hA,
      fun _ _ => simpleSymbols_simpleRead (by decide) (by decide) hA⟩
  refine hsyms.bind fun t ht => ?_
  unfold State.simpleRead at ht
  split
  · rename_i h4
    rw [if_pos h4] at ht
    obtain ⟨⟨hAt, -, hv⟩, hd⟩ := ht
    have hselect (b : Bool) : Ensures (fun t => validCode A t.work.lens = true) (selectTree b t) := by
      have hvalid := validCode_simple (A := A) (syms := t.work.syms) b (by omega) (by omega) hd hv
      rw [h4] at hvalid
      simpa [selectTree, assignSimple, hAt] using fun _ => hvalid
    refine ensures_runField ?_
    simp only [fieldRows, bare, List.forall_mem_cons, List.not_mem_nil, IsEmpty.forall_iff, implies_true, and_true]
    exact ⟨fun _ _ => hselect false, fun _ _ => hselect true⟩
  · rw [if_neg ‹_›] at ht
    exact (ensures_ok t).mpr ht

end Sys2Proof.Machine
end

section
/-! SUPPORT. The code-length symbols of a complex prefix code (41_prefix_codes.md R111 to R117): the workspace holds what the
symbols read so far have written. -/

namespace Sys2Proof.Machine

/-- The workspace holds the lengths `k` of a code over `A` symbols: written from the first symbol on, the rest 0, and the code
space left is what they do not take (41_prefix_codes.md R111). -/
structure Work.Holds (w : Work) (A : Nat) (k : Lengths) : Prop where
  alphabet : w.alphabet = A
  fits : k.lens.length ≤ A
  lens : w.lens = k.lens ++ List.replicate (A - k.lens.length) 0
  symbol : w.symbol = k.lens.length
  prev : w.prevLen = k.prev
  rep : w.rep = k.rep
  repLen : w.repLen = k.repLen
  space : w.space = 32768 - (kraft k.lens : Int)

/-- The workspace after a literal length (41_prefix_codes.md R112). -/
def Work.literal (w : Work) (c : Nat) : Work :=
  let w := { w with rep := 0, lens := w.lens.set w.symbol c, symbol := w.symbol + 1 }
  if c = 0 then w else { w with prevLen := c, space := w.space - ((32768 >>> c : Nat) : Int) }

theorem literalLength_eq (c : Nat) (s : State) : literalLength c s =
    consume (some s.work.cl) c s >>= fun t => .ok { t with work := t.work.literal c } := rfl

/-- The repeat that a repeat code of value `newLen`, with extra bits of value `x`, comes to (41_prefix_codes.md R115). -/
def Work.repeated (w : Work) (newLen eb x : Nat) : Nat :=
  let old := if w.repLen = newLen then w.rep else 0
  (if 0 < old then (old - 2) <<< eb else old) + x + 3

/-- How many lengths it writes. -/
def Work.delta (w : Work) (newLen eb x : Nat) : Nat :=
  w.repeated newLen eb x - if w.repLen = newLen then w.rep else 0

/-- The workspace after a repeat code (41_prefix_codes.md R116). -/
def Work.repeats (w : Work) (newLen eb x : Nat) : Work :=
  let delta := w.delta newLen eb x
  let w := { w with
    rep := w.repeated newLen eb x, repLen := newLen, lens := fillLengths w.lens w.symbol newLen delta,
    symbol := w.symbol + delta }
  if newLen = 0 then w else { w with space := w.space - ((delta <<< (15 - newLen) : Nat) : Int) }

theorem repeatLength_eq (newLen eb : Nat) (s : State) : repeatLength newLen eb s =
    readBits eb s >>= fun (x, t) =>
      if t.work.alphabet < t.work.symbol + t.work.delta newLen eb x then
        raise .formatHuffmanSpace "repeat past alphabet" t
      else .ok { t with work := t.work.repeats newLen eb x } := rfl

/-! ### What is written -/

theorem set_at_end (L : List Nat) (n c : Nat) :
    (L ++ List.replicate (n + 1) 0).set L.length c = L ++ [c] ++ List.replicate n 0 := by
  simp [List.replicate_succ]

theorem fillLengths_at_end (L : List Nat) (n l m : Nat) :
    fillLengths (L ++ List.replicate (n + m) 0) L.length l m = L ++ List.replicate m l ++ List.replicate n 0 := by
  induction m generalizing L with
  | zero => simp [fillLengths]
  | succ m ih =>
    have := ih (L ++ [l])
    rw [fillLengths, ← Nat.add_assoc, set_at_end, ← List.length_concat (a := l), List.concat_eq_append, this]
    simp [List.replicate_succ]

theorem shiftRight_eq_kraftOf {c : Nat} (h0 : c ≠ 0) (h15 : c ≤ 15) : 32768 >>> c = kraftOf c := by
  rw [kraftOf, if_neg h0, Nat.shiftRight_eq_div_pow, ← Nat.pow_div h15 (by decide)]

theorem Work.literal_eq (w : Work) {c : Nat} (hc : c ≤ 15) : w.literal c =
    { w with
      rep := 0
      lens := w.lens.set w.symbol c
      symbol := w.symbol + 1
      prevLen := if c = 0 then w.prevLen else c
      space := w.space - kraftOf c } := by
  by_cases h0 : c = 0
  · simp [Work.literal, h0]
  · simp [Work.literal, h0, shiftRight_eq_kraftOf h0 hc]

theorem Work.repeats_eq (w : Work) (newLen eb x : Nat) : w.repeats newLen eb x =
    { w with
      rep := w.repeated newLen eb x
      repLen := newLen
      lens := fillLengths w.lens w.symbol newLen (w.delta newLen eb x)
      symbol := w.symbol + w.delta newLen eb x
      space := w.space - (w.delta newLen eb x * kraftOf newLen : Nat) } := by
  by_cases h0 : newLen = 0
  · simp [Work.repeats, h0]
  · simp [Work.repeats, h0, kraftOf, Nat.shiftLeft_eq]

theorem Work.Holds.literal {w : Work} {A : Nat} {k : Lengths} (h : w.Holds A k) {c : Nat} (x : Nat) (hc : c < 16)
    (hroom : k.lens.length < A) : (w.literal c).Holds A (k.write c x) := by
  rw [w.literal_eq (by omega), Lengths.write_literal k x hc]
  obtain ⟨n, hn⟩ : ∃ n, A - k.lens.length = n + 1 := ⟨A - k.lens.length - 1, by omega⟩
  have hrest : A - (k.lens ++ [c]).length = n := by simp; omega
  exact {
    alphabet := h.alphabet
    fits := by simp; omega
    lens := by simp only [h.lens, h.symbol, hrest, hn, set_at_end]
    symbol := by simp [h.symbol]
    prev := by simp only [h.prev]
    rep := rfl
    repLen := h.repLen
    space := by simp only [h.space, kraft_append]; simp [kraft_eq]; ring }

/-- The length that a repeat code repeats (41_prefix_codes.md R113, R114). -/
def Lengths.repeatOf (k : Lengths) (sym : Nat) : Nat := if sym = 16 then k.prev else 0

/-- How many lengths a repeat code writes (41_prefix_codes.md R115). -/
def Lengths.run (k : Lengths) (sym x : Nat) : Nat :=
  (k.write sym x).rep - if k.repLen = k.repeatOf sym then k.rep else 0

theorem Lengths.write_repeat (k : Lengths) {sym : Nat} (x : Nat) (h : ¬sym < 16) : k.write sym x =
    { lens := k.lens ++ List.replicate (k.run sym x) (k.repeatOf sym), prev := k.prev, rep := (k.write sym x).rep,
      repLen := k.repeatOf sym } := by
  simp only [Lengths.run, Lengths.repeatOf, Lengths.write, h, if_false]
  rfl

theorem Work.Holds.repeated {w : Work} {A : Nat} {k : Lengths} (h : w.Holds A k) {sym : Nat} (x : Nat)
    (hsym : ¬sym < 16) : w.repeated (k.repeatOf sym) (repeatExtra sym) x = (k.write sym x).rep := by
  have hold (o e : Nat) : (if 0 < o then (o - 2) * 2 ^ e else o) = if o = 0 then 0 else (o - 2) * 2 ^ e := by
    rcases o.eq_zero_or_pos with rfl | ho
    · rfl
    · rw [if_pos ho, if_neg ho.ne']
  simp only [Work.repeated, Lengths.write, hsym, if_false, h.rep, h.repLen, Nat.shiftLeft_eq, Lengths.repeatOf, hold]

theorem Work.Holds.delta {w : Work} {A : Nat} {k : Lengths} (h : w.Holds A k) {sym : Nat} (x : Nat)
    (hsym : ¬sym < 16) : w.delta (k.repeatOf sym) (repeatExtra sym) x = k.run sym x := by
  rw [Work.delta, h.repeated x hsym, h.rep, h.repLen, Lengths.run]

theorem Work.Holds.repeats {w : Work} {A : Nat} {k : Lengths} (h : w.Holds A k) {sym x : Nat} (hsym : ¬sym < 16)
    (hroom : k.lens.length + k.run sym x ≤ A) :
    (w.repeats (k.repeatOf sym) (repeatExtra sym) x).Holds A (k.write sym x) := by
  rw [w.repeats_eq, h.delta x hsym, h.repeated x hsym, k.write_repeat x hsym]
  obtain ⟨n, hn⟩ : ∃ n, A - k.lens.length = n + k.run sym x := ⟨A - k.lens.length - k.run sym x, by omega⟩
  have hrest : A - (k.lens ++ List.replicate (k.run sym x) (k.repeatOf sym)).length = n := by simp; omega
  exact {
    alphabet := h.alphabet
    fits := by simpa using hroom
    lens := by simp only [h.lens, h.symbol, hrest, hn, fillLengths_at_end]
    symbol := by simp [h.symbol]
    prev := h.prev
    rep := rfl
    repLen := rfl
    space := by simp only [h.space, kraft_append, kraft_replicate]; push_cast; ring }

/-! ### The loop -/

/-- Lengths that fit in a code: at most 15 each, and the last non-zero one is there to repeat (41_prefix_codes.md R112). -/
def Lengths.small (k : Lengths) : Prop := (∀ l ∈ k.lens, l ≤ 15) ∧ k.prev ≤ 15

theorem Lengths.small_start : Lengths.start.small := by simp [Lengths.small, Lengths.start]

theorem Lengths.small.write {k : Lengths} (h : k.small) (sym x : Nat) : (k.write sym x).small := by
  obtain ⟨hl, hp⟩ := h
  by_cases hsym : sym < 16
  · rw [Lengths.write_literal k x hsym]
    refine ⟨fun l hmem => ?_, ?_⟩
    · obtain hmem | rfl := by simpa using hmem
      · exact hl l hmem
      · omega
    · dsimp only; split <;> omega
  · rw [Lengths.write_repeat k x hsym]
    refine ⟨fun l hmem => ?_, hp⟩
    obtain hmem | ⟨-, rfl⟩ := by simpa using hmem
    · exact hl l hmem
    · unfold Lengths.repeatOf; split <;> omega

/-- Some code-length symbols have been read. -/
def State.readsLengths (A : Nat) (s : State) : Prop := ∃ k, s.work.Holds A k ∧ k.small

theorem repeatLength_readsLengths {A sym : Nat} {k : Lengths} {s : State} (h : s.work.Holds A k) (hk : k.small)
    (hsym : ¬sym < 16) : Ensures (State.readsLengths A) (repeatLength (k.repeatOf sym) (repeatExtra sym) s) := by
  simp only [repeatLength_eq, ensures_bind, ensures_readBits, ensures_ite, ensures_raise, ensures_ok, implies_true,
    true_and, State.advance_work, Nat.not_lt]
  intro _ hroom
  rw [h.delta _ hsym, h.symbol, h.alphabet] at hroom
  exact ⟨_, h.repeats hsym hroom, hk.write ..⟩

/-- A code-length symbol writes what it says (41_prefix_codes.md R112 to R116). -/
theorem codeLength_readsLengths {A v : Nat} {s : State} (h : s.readsLengths A) (hroom : s.work.symbol < s.work.alphabet) :
    Ensures (State.readsLengths A) (symbolEffect .codeLength v s) := by
  obtain ⟨k, h, hk⟩ := h
  rw [h.symbol, h.alphabet] at hroom
  simp only [symbolEffect]
  split
  · rename_i hv16
    simp only [literalLength_eq, ensures_bind, ensures_consume, ensures_ok, State.advance_work]
    exact fun _ _ => ⟨_, h.literal 0 hv16 hroom, hk.write ..⟩
  split
  · refine (ensures_bind ..).mpr ((ensures_consume ..).mpr fun l _ => ?_)
    have := repeatLength_readsLengths (s := s.advance l) (sym := 16) h hk (by decide)
    rwa [Lengths.repeatOf, if_pos rfl, ← h.prev] at this
  · refine (ensures_bind ..).mpr ((ensures_consume ..).mpr fun l _ => ?_)
    exact repeatLength_readsLengths (s := s.advance l) (sym := 17) h hk (by decide)

/-! ### The whole code -/

/-- The workspace at the start of the symbol lengths (41_prefix_codes.md R111). -/
theorem checkCodeLengths_readsLengths {A : Nat} {s : State} (hA : s.work.alphabet = A) :
    Ensures (State.readsLengths A) (checkCodeLengths s) := by
  simp only [checkCodeLengths, ensures_ite, ensures_ok, ensures_raise, implies_true, and_true]
  exact fun _ => ⟨.start, ⟨hA, by simp [Lengths.start], by simp [Lengths.start, hA], rfl, rfl, rfl, rfl, rfl⟩,
    Lengths.small_start⟩

theorem clcl_keeps_alphabet {A : Nat} {s : State} (hA : s.work.alphabet = A) :
    Ensures (fun t => t.work.alphabet = A) (runElement (.field .clcl) s) := by
  have hrow (n v : Nat) : Ensures (fun t => t.work.alphabet = A) (codeLengthLength n v s) := by
    simp only [codeLengthLength, ensures_bind, ensures_skip]
    intro _
    split
    · exact ensures_error _
    · split <;> simpa using hA
  refine ensures_runField ?_
  simp only [fieldRows, bare, List.forall_mem_cons, List.not_mem_nil, IsEmpty.forall_iff, implies_true, and_true]
  exact ⟨fun _ _ => hrow 2 0, fun _ _ => hrow 2 3, fun _ _ => hrow 2 4, fun _ _ => hrow 3 2, fun _ _ => hrow 4 1,
    fun _ _ => hrow 4 5⟩

/-- A condition that every turn of a bounded loop keeps. -/
theorem Ensures.iterateWhile {P : State → Prop} {c : State → Bool} {f : State → Res State}
    (hf : ∀ s, c s = true → P s → Ensures P (f s)) (n : Nat) {s : State} (hs : P s) :
    Ensures P (iterateWhile n c f s) := fun _ h => iterateWhile_induction (fun s t hc hs ht => hf s hc hs t ht) hs h

theorem readComplex_valid {A : Nat} {s : State} (hA : s.work.alphabet = A) :
    Ensures (fun t => validCode A t.work.lens = true) (readComplex s) := by
  refine (Ensures.iterateWhile (P := fun t => t.work.alphabet = A) (fun t _ => clcl_keeps_alphabet) _ hA).bind
    fun t ht => (checkCodeLengths_readsLengths ht).bind fun u hu => ?_
  refine (Ensures.iterateWhile (P := State.readsLengths A) (fun v hc hv => ?_) _ hu).bind fun v ⟨k, h, hk⟩ => ?_
  · exact ensures_runCode fun _ _ _ _ _ => codeLength_readsLengths hv (of_decide_eq_true hc).1
  · simp only [checkSpace, ensures_ite, ensures_ok, ensures_raise, implies_true, and_true]
    intro hspace
    have hkraft : kraft k.lens = 32768 := by have := h.space; omega
    refine validCode_iff.mpr ⟨?_, fun l hl => ?_, .inr ?_⟩
    · rw [h.lens]; simp; have := h.fits; omega
    · rw [h.lens] at hl
      obtain hl | ⟨-, rfl⟩ := by simpa using hl
      · exact hk.1 l hl
      · exact Nat.zero_le _
    · rw [h.lens, kraft_append, hkraft]; simp

/-- Every prefix code that is read over an alphabet is a valid one (41_prefix_codes.md R117, R118). -/
theorem readPrefixCode_valid (A : Nat) (s : State) : Ensures (fun t => validCode A t.work.lens = true) (readPrefixCode A s) := by
  have hstart : Ensures (fun t => t.work.alphabet = A)
      (runElement (.field .hskip) { s with work := { s.work with alphabet := A } }) := by
    have hcomplex (h : Nat) (u : State) (hu : u.work.alphabet = A) :
        Ensures (fun t => t.work.alphabet = A) (startComplex h u) := by simp [startComplex, hu]
    have hsimple (u : State) (hu : u.work.alphabet = A) :
        Ensures (fun t => t.work.alphabet = A) (startSimple u) := by simp [startSimple, hu]
    refine ensures_runField ?_
    simp only [fieldRows, bare, List.forall_mem_cons, List.not_mem_nil, IsEmpty.forall_iff, implies_true, and_true]
    exact ⟨fun _ _ => hcomplex 0 _ rfl, fun _ _ => hsimple _ rfl, fun _ _ => hcomplex 2 _ rfl,
      fun _ _ => hcomplex 3 _ rfl⟩
  refine hstart.bind fun t ht => ?_
  split
  · exact readSimple_valid ht
  · exact readComplex_valid ht

end Sys2Proof.Machine
end

section
/-! SUPPORT. The tables of a compressed meta-block, as SETUP writes them and as block switches keep them: the trackers, the
distance parameters, the context modes, the context maps and the tree groups are valid (10_state.md R30 to R34). -/

namespace Sys2Proof.Machine

theorem Ensures.and {α : Type} {P Q : α → Prop} {r : Res α} (hP : Ensures P r) (hQ : Ensures Q r) :
    Ensures (fun a => P a ∧ Q a) r := fun a ha => ⟨hP a ha, hQ a ha⟩

/-- Two frames in a row. -/
theorem Frame.append {W V : List Reg} {s t u : State} (h : Frame W s t) (h' : Frame V t u) : Frame (W ++ V) s u :=
  (h.mono (List.subset_append_left W V)).trans (h'.mono (List.subset_append_right W V))

theorem Frame.distanceAlphabet {W : List Reg} {s t : State} (h : Frame W s t) (hp : .npostfix ∉ W) (hd : .ndirect ∉ W) :
    t.distanceAlphabet = s.distanceAlphabet := by
  have hp' : t.npostfix = s.npostfix := h.same .npostfix hp
  have hd' : t.ndirect = s.ndirect := h.same .ndirect hd
  simp only [State.distanceAlphabet, hp', hd']

/-! ### Trackers -/

theorem Tracker.valid_iff (k : Tracker) : k.valid = true ↔
    1 ≤ k.nbltypes ∧ k.nbltypes ≤ 256 ∧ k.btype < k.nbltypes ∧
    (2 ≤ k.nbltypes → k.prevType < k.nbltypes ∧ validCode (k.nbltypes + 2) k.htreeBtype = true ∧
      validCode 26 k.htreeBlen = true) := by
  simp only [Tracker.valid, Bool.and_eq_true, Bool.or_eq_true, decide_eq_true_eq, beq_iff_eq]
  constructor
  · rintro ⟨⟨⟨h1, h2⟩, h3⟩, h4⟩
    refine ⟨h1, h2, h3, fun h => ?_⟩
    obtain h4 | ⟨⟨h4, h5⟩, h6⟩ := h4
    · omega
    · exact ⟨h4, h5, h6⟩
  · rintro ⟨h1, h2, h3, h4⟩
    refine ⟨⟨⟨h1, h2⟩, h3⟩, ?_⟩
    by_cases h : k.nbltypes = 1
    · exact .inl h
    · obtain ⟨h4, h5, h6⟩ := h4 (by omega)
      exact .inr ⟨⟨h4, h5⟩, h6⟩

/-- The count of a variable-length count is a byte (30_encoding.md R75). -/
theorem varlen_count (s : State) : Ensures (fun t => t.work.count ≤ 255) (runElement (.field .varlen) s) := by
  have hrow (n v : Nat) (hv : v ≤ 255) : Ensures (fun t => t.work.count ≤ 255) (setCount n v s) := by
    simp [setCount, hv]
  refine ensures_runField ?_
  simp only [fieldRows, bare, wide, List.forall_mem_cons, List.not_mem_nil, IsEmpty.forall_iff, implies_true, and_true]
  exact ⟨fun _ _ => hrow 1 0 (by decide), fun _ _ => hrow 4 1 (by decide), fun x _ => hrow 5 (2 + x) (by omega),
    fun x _ => hrow 6 (4 + x) (by omega), fun x _ => hrow 7 (8 + x) (by omega), fun x _ => hrow 8 (16 + x) (by omega),
    fun x _ => hrow 9 (32 + x) (by omega), fun x _ => hrow 10 (64 + x) (by omega),
    fun x _ => hrow 11 (128 + x) (by omega)⟩

/-- A block count that is read leaves everything of its tracker but the count. -/
theorem readBlockCount_tracker (c : Category) (s : State) :
    Ensures (fun t => ∃ b, t.tracker c = { s.tracker c with blen := b }) (readBlockCount c s) := by
  refine ensures_runCode fun _ _ v _ _ => ?_
  simp [symbolEffect, renewCount]

theorem Tracker.valid_blen {k : Tracker} (h : k.valid = true) (b : Nat) : { k with blen := b }.valid = true := h

theorem readBlockCount_valid {c : Category} {s : State} (h : (s.tracker c).valid = true) :
    Ensures (fun t => (t.tracker c).valid = true ∧ (t.tracker c).nbltypes = (s.tracker c).nbltypes) (readBlockCount c s) :=
  (readBlockCount_tracker c s).mono fun t ⟨b, hb⟩ => by rw [hb]; exact ⟨h, rfl⟩

theorem readPrefixCode_spec (A : Nat) (s : State) :
    Ensures (fun t => validCode A t.work.lens = true ∧ Frame [.work] s t) (readPrefixCode A s) :=
  (readPrefixCode_valid A s).and (readPrefixCode_runs s A).frame

theorem blockCodes_valid {c : Category} {n : Nat} {s : State} (hs : s.tracker c = .fresh n) (h2 : 2 ≤ n) (h256 : n ≤ 256) :
    Ensures (fun t => (t.tracker c).valid = true) (blockCodes c n s) := by
  refine Ensures.bind (P := (· = s)) (by simp) ?_
  rintro s rfl
  refine (readPrefixCode_spec _ s).bind fun t ⟨htypes, hframe⟩ => ?_
  have ht : t.tracker c = .fresh n := (hframe.same (.tracker c) (by simp)).trans hs
  refine (readPrefixCode_spec 26 _).bind fun u ⟨hcounts, hframe'⟩ => ?_
  have hu : u.tracker c = { Tracker.fresh n with htreeBtype := t.work.lens } :=
    (hframe'.same (.tracker c) (by simp)).trans (by simp [ht])
  refine (readBlockCount_valid ?_).mono fun v ⟨hv, _⟩ => hv
  rw [State.tracker_setTracker, Tracker.valid_iff, hu]
  exact ⟨by simp [Tracker.fresh]; omega, h256, by simp [Tracker.fresh]; omega,
    fun _ => ⟨by simp [Tracker.fresh]; omega, htypes, hcounts⟩⟩

/-- A block header writes a valid tracker (42_metablock.md R141 to R144). -/
theorem blockHeader_valid (c : Category) (s : State) : Ensures (fun t => (t.tracker c).valid = true) (blockHeader c s) := by
  rw [blockHeader_eq]
  refine (varlen_count s).bind fun t ht => ?_
  split
  · exact blockCodes_valid (by simp) ‹_› (by omega)
  · have h1 : t.work.count + 1 = 1 := by omega
    rw [ensures_ok, State.tracker_setTracker, h1]
    decide

/-- A block type that a symbol selects exists (30_encoding.md R79). -/
theorem Tracker.resolve_lt {k : Tracker} (hb : k.btype < k.nbltypes) (hp : k.prevType < k.nbltypes) {t : Nat}
    (ht : t < k.nbltypes + 2) : k.resolve t < k.nbltypes := by
  unfold Tracker.resolve
  split_ifs
  · exact hp
  · exact Nat.mod_lt _ (by omega)
  · omega

/-- A block switch keeps its tracker valid (43_command_loop.md R162). -/
theorem blockSwitch_valid {c : Category} {s : State} (h : (s.tracker c).valid = true) (h2 : 2 ≤ (s.tracker c).nbltypes) :
    Ensures (fun t => (t.tracker c).valid = true ∧ (t.tracker c).nbltypes = (s.tracker c).nbltypes) (blockSwitch c s) := by
  obtain ⟨h1, h256, hb, hmany⟩ := (s.tracker c).valid_iff.mp h
  obtain ⟨hp, htypes, hcounts⟩ := hmany h2
  have htype : Ensures (fun t => (t.tracker c).valid = true ∧ (t.tracker c).nbltypes = (s.tracker c).nbltypes)
      (runSymbol (.blockType c) (some (s.tracker c).htreeBtype) s) := by
    refine ensures_runCode fun T hT v hv _ => ?_
    cases hT
    rw [(validCode_iff.mp htypes).1] at hv
    simp only [symbolEffect, switchType, ensures_bind, ensures_consume, Res.pure_eq, ensures_ok, State.tracker_setTracker,
      State.advance_tracker, and_true]
    exact fun _ _ => (Tracker.valid_iff _).mpr ⟨h1, h256, Tracker.resolve_lt hb hp hv, fun _ => ⟨hb, htypes, hcounts⟩⟩
  refine htype.bind fun t ⟨ht, hn⟩ => (readBlockCount_valid ht).mono fun u ⟨hu, hn'⟩ => ⟨hu, hn'.trans hn⟩

/-- What comes before a symbol keeps its category's tracker valid (43_command_loop.md R163). -/
theorem countSymbol_valid {c : Category} {s : State} (h : (s.tracker c).valid = true) :
    Ensures (fun t => (t.tracker c).valid = true ∧ (t.tracker c).nbltypes = (s.tracker c).nbltypes) (countSymbol c s) := by
  unfold countSymbol
  split
  · split
    · refine (blockSwitch_valid h ‹_›).bind fun t ⟨ht, hn⟩ => (ensures_ok _).mpr ?_
      rw [State.tracker_setTracker]
      exact ⟨Tracker.valid_blen ht _, hn⟩
    · refine (ensures_ok _).mpr ?_
      rw [State.tracker_setTracker]
      exact ⟨Tracker.valid_blen h _, rfl⟩
  · exact (ensures_ok s).mpr ⟨h, rfl⟩

/-! ### Distance parameters and context modes -/

/-- NPOSTFIX and NDIRECT lie in their ranges (42_metablock.md R145). -/
theorem distanceParameters_valid (s : State) :
    Ensures (fun t => t.npostfix ≤ 3 ∧ t.ndirect ≤ 120 ∧ t.ndirect % 2 ^ t.npostfix = 0) (distanceParameters s) := by
  refine Ensures.bind (P := fun t => t.npostfix ≤ 3) (ensures_runField ?_) fun t ht => ensures_runField ?_
  · have hrow (k : Nat) (hk : k ≤ 3) : Ensures (fun t => t.npostfix ≤ 3) (setPostfix k s) := by simp [setPostfix, hk]
    simp only [fieldRows, bare, List.forall_mem_cons, List.not_mem_nil, IsEmpty.forall_iff, implies_true, and_true]
    exact ⟨fun _ _ => hrow 0 (by decide), fun _ _ => hrow 1 (by decide), fun _ _ => hrow 2 (by decide),
      fun _ _ => hrow 3 (by decide)⟩
  · simp only [fieldRows, wide, List.forall_mem_cons, List.not_mem_nil, IsEmpty.forall_iff, implies_true, and_true]
    intro x hx
    show Ensures _ (setDirect x t)
    simp only [setDirect, ensures_bind, ensures_skip, Res.pure_eq, ensures_ok, State.advance_npostfix, Nat.shiftLeft_eq,
      Nat.mul_mod_left, and_true]
    have hpow : 2 ^ t.npostfix ≤ 2 ^ 3 := Nat.pow_le_pow_right (by decide) ht
    exact fun _ => ⟨ht, by nlinarith⟩

/-- Every literal block type gets a context mode (42_metablock.md R146). -/
theorem contextModes_length (s : State) : Ensures (fun t => t.cmode.length = s.trackerL.nbltypes) (contextModes s) := by
  have hrow (m : CtxMode) (k : Nat) (t : State) (ht : t.cmode.length = k) :
      Ensures (fun t => t.cmode.length = k + 1) (pushMode m t) := by simp [pushMode, ht]
  refine Ensures.bind (P := (· = s)) (by simp) ?_
  rintro s rfl
  refine ensures_iterate_count (P := fun k t => t.cmode.length = k) (fun k _ t ht => ensures_runField ?_) rfl
  simp only [fieldRows, bare, List.forall_mem_cons, List.not_mem_nil, IsEmpty.forall_iff, implies_true, and_true]
  exact ⟨fun _ _ => hrow .lsb6 k t ht, fun _ _ => hrow .msb6 k t ht, fun _ _ => hrow .utf8 k t ht,
    fun _ _ => hrow .signed k t ht⟩

/-! ### Context maps -/

/-- A context map's entries while it is read: they index `n` trees, and there are at most `size` of them. -/
structure State.readsMap (size n : Nat) (s : State) : Prop where
  mapSize : s.work.mapSize = size
  code : s.work.lens.length = n + s.work.rlemax
  fits : s.work.map.length ≤ size
  trees : ∀ x ∈ s.work.map, x < n

theorem contextMapSymbol_readsMap {size n v : Nat} {s : State} (hs : s.readsMap size n) (hn : 1 ≤ n)
    (hroom : s.work.map.length < s.work.mapSize) (hv : v < s.work.lens.length) :
    Ensures (State.readsMap size n) (symbolEffect (.contextMap s.work.rlemax) v s) := by
  obtain ⟨hsize, hcode, hfits, htrees⟩ := hs
  simp only [symbolEffect]
  split
  · simp only [mapZero, ensures_bind, ensures_consume, Res.pure_eq, ensures_ok]
    refine fun _ _ => ⟨hsize, hcode, by simp; omega, fun x hx => ?_⟩
    obtain hx | rfl := by simpa using hx
    · exact htrees x hx
    · exact hn
  split
  · simp only [mapRun, ensures_bind, ensures_consume, ensures_readBits, ensures_ite, ensures_raise, Res.pure_eq, ensures_ok,
      implies_true, true_and]
    refine fun _ _ _ hrun => ⟨hsize, hcode, by simp at hrun ⊢; omega, fun x hx => ?_⟩
    obtain hx | ⟨-, rfl⟩ := by simpa using hx
    · exact htrees x hx
    · exact hn
  · simp only [mapValue, ensures_bind, ensures_consume, Res.pure_eq, ensures_ok]
    refine fun _ _ => ⟨hsize, hcode, by simp; omega, fun x hx => ?_⟩
    obtain hx | rfl := by simpa using hx
    · exact htrees x hx
    · omega

/-- Every context-map symbol writes at least one entry (42_metablock.md R149). -/
theorem contextMapSymbol_grows (r v : Nat) (s : State) :
    Ensures (fun t => t.work.mapSize = s.work.mapSize ∧ s.work.map.length < t.work.map.length)
      (symbolEffect (.contextMap r) v s) := by
  simp only [symbolEffect]
  split
  · simp [mapZero]
  split
  · have h (x : Nat) : 0 < 1 <<< v + x := by have := Nat.two_pow_pos v; simp [Nat.shiftLeft_eq]
    simp [mapRun, h]
  · simp [mapValue]

/-- The inverse move-to-front keeps the number of entries, and indices into the first `n` of its list (42_metablock.md
R152). -/
theorem moveToFront_spec {n : Nat} {mtf : List Nat} (hmtf : ∀ j < n, mtf.getD j 0 < n) {idxs : List Nat}
    (h : ∀ x ∈ idxs, x < n) : (moveToFront mtf idxs).length = idxs.length ∧ ∀ x ∈ moveToFront mtf idxs, x < n := by
  induction idxs generalizing mtf with
  | nil => simp [moveToFront]
  | cons idx idxs ih =>
    have hidx : mtf.getD idx 0 < n := hmtf idx (h idx (by simp))
    have hnext : ∀ j < n, (mtf.getD idx 0 :: (mtf.take idx ++ mtf.drop (idx + 1))).getD j 0 < n := by
      rintro (_ | j) hj
      · exact hidx
      · have hbefore := hmtf j (by omega)
        have hafter := hmtf (j + 1) hj
        simp only [List.getD_eq_getElem?_getD, List.getElem?_cons_succ, List.getElem?_append, List.getElem?_take,
          List.getElem?_drop, List.length_take] at hbefore hafter ⊢
        rcases Nat.lt_or_ge j (min idx mtf.length) with hlt | hge
        · rw [if_pos hlt, if_pos (by omega)]
          exact hbefore
        rw [if_neg (by omega)]
        by_cases hle : idx ≤ mtf.length
        · rw [show idx + 1 + (j - min idx mtf.length) = j + 1 by omega]
          exact hafter
        · rw [List.getElem?_eq_none (by omega)]
          exact Nat.zero_lt_of_lt hj
    obtain ⟨hl, hx⟩ := ih hnext fun x hx => h x (by simp [hx])
    simp only [moveToFront, List.length_cons, hl, List.mem_cons, forall_eq_or_imp, true_and]
    exact ⟨hidx, hx⟩

theorem imtf_spec {size n : Nat} {s : State} (h256 : n ≤ 256) (hl : s.work.map.length = size)
    (hx : ∀ x ∈ s.work.map, x < n) :
    Ensures (fun t => t.work.map.length = size ∧ ∀ x ∈ t.work.map, x < n) (runElement (.field .imtf) s) := by
  refine ensures_runField ?_
  simp only [fieldRows, bare, List.forall_mem_cons, List.not_mem_nil, IsEmpty.forall_iff, implies_true, and_true]
  refine ⟨fun _ _ => (ensures_skip ..).mpr fun _ => ⟨hl, hx⟩, fun _ _ => ?_⟩
  show Ensures _ (applyMoveToFront s)
  simp only [applyMoveToFront, ensures_bind, ensures_skip, Res.pure_eq, ensures_ok, State.advance_work]
  intro _
  obtain ⟨hl', hx'⟩ := moveToFront_spec (mtf := List.range 256) (fun j hj => by
    rw [List.getD_eq_getElem _ _ (by simp; omega)]; simpa using hj) hx
  exact ⟨hl'.trans hl, hx'⟩

/-- A context map has an entry for each context, and each is one of its trees (42_metablock.md R148 to R152). -/
theorem readContextMap_valid {size n : Nat} (s : State) (h1 : 1 ≤ n) (h256 : n ≤ 256) :
    Ensures (fun t => t.work.map.length = size ∧ ∀ x ∈ t.work.map, x < n) (readContextMap size n s) := by
  refine Ensures.bind (ensures_true _) fun t _ => (readPrefixCode_spec _ t).bind fun u ⟨hcode, hframe⟩ => ?_
  have hstart : State.readsMap size n { u with work := { u.work with mapSize := size, map := [] } } :=
    { mapSize := rfl
      code := (validCode_iff.mp hcode).1.trans (congrArg (n + ·) (hframe.same .rlemax (by decide)).symm)
      fits := Nat.zero_le _
      trees := by simp }
  have hloop : Ensures (fun t => t.readsMap size n ∧ t.work.mapSize ≤ t.work.map.length)
      (iterateWhile size (fun t => decide (t.work.map.length < t.work.mapSize))
        (fun t => runSymbol (.contextMap t.work.rlemax) (some t.work.lens) t)
        { u with work := { u.work with mapSize := size, map := [] } }) := by
    refine Ensures.and (Ensures.iterateWhile (fun v hc hv => ensures_runCode fun T hT x hx _ => ?_) _ hstart) fun v hv => ?_
    · cases hT
      exact contextMapSymbol_readsMap hv h1 (of_decide_eq_true hc) hx
    · have hends := iterateWhile_ends (μ := fun t => t.work.mapSize - t.work.map.length) (fun v w hc hw => ?_) (by simp)
        (fun v hv => by simpa [Nat.sub_eq_zero_iff_le] using hv) hv
      · simpa using hends
      · have hlt := of_decide_eq_true hc
        obtain ⟨hsize, hgrow⟩ := ensures_runCode (fun T hT x hx _ => contextMapSymbol_grows _ x v) w hw
        omega
  refine hloop.bind fun v ⟨hv, hfull⟩ => imtf_spec h256 ?_ hv.trees
  have := hv.mapSize
  have := hv.fits
  omega

theorem contextMap_valid (size : Nat) (s : State) :
    Ensures (fun t => t.work.count ≤ 255 ∧ t.work.map.length = size ∧ ∀ x ∈ t.work.map, x < t.work.count + 1)
      (contextMap size s) := by
  refine (varlen_count s).bind fun t ht => Ensures.bind (P := fun u => u = t) (by simp) fun _ hu => hu ▸ ?_
  split
  · refine (readContextMap_valid t (by omega) (by omega)).bind fun u ⟨hl, hx⟩ => (ensures_ok _).mpr ⟨ht, hl, hx⟩
  · refine (ensures_ok _).mpr ⟨ht, by simp, fun x hx => ?_⟩
    obtain ⟨-, rfl⟩ := by simpa using hx
    exact Nat.succ_pos _

/-! ### Tree groups -/

/-- A group of `n` valid trees over `A` symbols. -/
def validTrees (n A : Nat) (trees : List PrefixCode) : Prop :=
  trees.length = n ∧ ∀ T ∈ trees, validCode A T = true

/-- One more tree of a group. -/
theorem validTrees_concat {A k : Nat} {trees : List PrefixCode} {T : PrefixCode}
    (h : validTrees k A trees) (hT : validCode A T = true) :
    validTrees (k + 1) A (trees ++ [T]) := by
  refine ⟨by simp [h.1], fun U hU => ?_⟩
  obtain hU | rfl := by simpa using hU
  · exact h.2 U hU
  · exact hT

/-- A loop that reads one tree a turn fills a group. -/
theorem iterate_tree_valid {A : Nat} {tree : State → Res State} {trees : State → List PrefixCode} {Q : State → Prop}
    (htree : ∀ t, Q t → Ensures (fun u => Q u ∧ ∃ T, validCode A T = true ∧ trees u = trees t ++ [T]) (tree t)) (n : Nat)
    {s : State} (hs : Q s) (h0 : trees s = []) : Ensures (fun t => validTrees n A (trees t)) (iterate n tree s) := by
  refine (ensures_iterate_count (P := fun k t => Q t ∧ validTrees k A (trees t)) (fun k _ t ⟨hQ, ht⟩ => ?_) ?_).mono
    fun t => And.right
  · refine (htree t hQ).mono fun u ⟨hQ', T, hT, hu⟩ => ⟨hQ', ?_⟩
    rw [hu]
    exact validTrees_concat ht hT
  · exact ⟨hs, by simp [validTrees, h0]⟩

theorem literalTree_valid (s : State) :
    Ensures (fun t => ∃ T, validCode 256 T = true ∧ t.htreeL = s.htreeL ++ [T]) (literalTree s) :=
  (readPrefixCode_spec 256 s).bind fun u ⟨hu, hframe⟩ =>
    (ensures_ok _).mpr ⟨_, hu, congrArg (· ++ [u.work.lens]) (hframe.same .treesL (by decide))⟩

theorem commandTree_valid (s : State) :
    Ensures (fun t => ∃ T, validCode 704 T = true ∧ t.htreeI = s.htreeI ++ [T]) (commandTree s) :=
  (readPrefixCode_spec 704 s).bind fun u ⟨hu, hframe⟩ =>
    (ensures_ok _).mpr ⟨_, hu, congrArg (· ++ [u.work.lens]) (hframe.same .treesI (by decide))⟩

theorem distanceTree_valid (s : State) :
    Ensures (fun t => ∃ T, validCode s.distanceAlphabet T = true ∧ t.htreeD = s.htreeD ++ [T]) (distanceTree s) :=
  (readPrefixCode_spec s.distanceAlphabet s).bind fun u ⟨hu, hframe⟩ =>
    (ensures_ok _).mpr ⟨_, hu, congrArg (· ++ [u.work.lens]) (hframe.same .treesD (by decide))⟩

theorem iterate_literalTree (n : Nat) {s : State} (hs : s.htreeL = []) :
    Ensures (fun t => validTrees n 256 t.htreeL ∧ Frame [.treesL, .work] s t) (iterate n literalTree s) :=
  (iterate_tree_valid (Q := fun _ => True) (fun t _ => (literalTree_valid t).mono fun _ => .intro trivial) n trivial hs).and
    (Runs.iterate literalTree_runs n s).frame

theorem iterate_commandTree (n : Nat) {s : State} (hs : s.htreeI = []) :
    Ensures (fun t => validTrees n 704 t.htreeI ∧ Frame [.treesI, .work] s t) (iterate n commandTree s) :=
  (iterate_tree_valid (Q := fun _ => True) (fun t _ => (commandTree_valid t).mono fun _ => .intro trivial) n trivial hs).and
    (Runs.iterate commandTree_runs n s).frame

theorem iterate_distanceTree (n : Nat) {s : State} (hs : s.htreeD = []) :
    Ensures (fun t => validTrees n s.distanceAlphabet t.htreeD ∧ Frame [.treesD, .work] s t) (iterate n distanceTree s) := by
  refine (iterate_tree_valid (Q := fun t => t.distanceAlphabet = s.distanceAlphabet) (fun t ht => ?_) n rfl hs).and
    (Runs.iterate distanceTree_runs n s).frame
  refine ((distanceTree_valid t).and (distanceTree_runs t).frame).mono fun u ⟨hu, hframe⟩ => ⟨?_, ht ▸ hu⟩
  exact (hframe.distanceAlphabet (by decide) (by decide)).trans ht

/-- The tree groups have a valid code for every index (42_metablock.md R154). -/
theorem treeGroups_valid (s : State) :
    Ensures (fun t => validTrees s.ntreesL 256 t.htreeL ∧ validTrees s.trackerI.nbltypes 704 t.htreeI ∧
      validTrees s.ntreesD s.distanceAlphabet t.htreeD) (treeGroups s) := by
  refine Ensures.bind (P := (· = s)) (by simp) ?_
  rintro s rfl
  refine (iterate_literalTree _ (by rfl)).bind fun u ⟨hL, hu⟩ => ?_
  have hI0 : u.htreeI = [] := hu.same .treesI (by decide)
  refine (iterate_commandTree _ hI0).bind fun v ⟨hI, hv⟩ => ?_
  have huv := hu.append hv
  have hD0 : v.htreeD = [] := huv.same .treesD (by decide)
  refine (iterate_distanceTree _ hD0).mono fun w ⟨hD, hw⟩ => ⟨?_, ?_, ?_⟩
  · rwa [(hv.append hw).same .treesL (by decide)]
  · have htracker : u.trackerI = s.trackerI := hu.same (.tracker .I) (by decide)
    rwa [hw.same .treesI (by decide), ← htracker]
  · rwa [huv.distanceAlphabet (by decide) (by decide), (huv.same .mapD (by decide)).1] at hD

end Sys2Proof.Machine
end

section
/-! SUPPORT. The tables of a compressed meta-block as one condition, and SETUP, which writes tables that meet it (10_state.md R30
to R34; 42_metablock.md R141 to R156). -/

namespace Sys2Proof.Machine

/-- A context map of `size` entries into `n` trees. -/
def validMap (size n : Nat) (map : List Nat) : Prop := map.length = size ∧ 1 ≤ n ∧ n ≤ 256 ∧ ∀ x ∈ map, x < n

/-- The conditions of `State.tablesValid`, by name. -/
structure State.Tables (s : State) : Prop where
  trackers : ∀ c, (s.tracker c).valid = true
  parameters : s.npostfix ≤ 3 ∧ s.ndirect ≤ 120 ∧ s.ndirect % 2 ^ s.npostfix = 0
  modes : s.cmode.length = s.trackerL.nbltypes
  literalMap : validMap (64 * s.trackerL.nbltypes) s.ntreesL s.cmapL
  literalTrees : validTrees s.ntreesL 256 s.htreeL
  commandTrees : validTrees s.trackerI.nbltypes 704 s.htreeI
  distanceMap : validMap (4 * s.trackerD.nbltypes) s.ntreesD s.cmapD
  distanceTrees : validTrees s.ntreesD s.distanceAlphabet s.htreeD

theorem validGroup_iff {size n A : Nat} {map : List Nat} {trees : List PrefixCode} :
    validGroup size n A map trees = true ↔ validMap size n map ∧ validTrees n A trees := by
  simp only [validGroup, validMap, validTrees, Bool.and_eq_true, beq_iff_eq, decide_eq_true_eq, List.all_eq_true, and_assoc]

theorem State.tablesValid_iff (s : State) : s.tablesValid = true ↔ s.Tables := by
  simp only [State.tablesValid, Bool.and_eq_true, beq_iff_eq, decide_eq_true_eq, validGroup_iff, List.all_eq_true]
  constructor
  · rintro ⟨⟨⟨⟨⟨⟨⟨⟨⟨⟨hL, hI⟩, hD⟩, hp⟩, hd⟩, hm⟩, hmodes⟩, hmapL, htreesL⟩, hn⟩, htreesI⟩, hmapD, htreesD⟩
    exact
      { trackers := fun c => by cases c <;> assumption
        parameters := ⟨hp, hd, hm⟩
        modes := hmodes
        literalMap := hmapL
        literalTrees := htreesL
        commandTrees := ⟨hn, htreesI⟩
        distanceMap := hmapD
        distanceTrees := htreesD }
  · rintro ⟨htrackers, ⟨hp, hd, hm⟩, hmodes, hmapL, htreesL, ⟨hn, htreesI⟩, hmapD, htreesD⟩
    exact ⟨⟨⟨⟨⟨⟨⟨⟨⟨⟨htrackers .L, htrackers .I⟩, htrackers .D⟩, hp⟩, hd⟩, hm⟩, hmodes⟩, hmapL, htreesL⟩, hn⟩, htreesI⟩,
      hmapD, htreesD⟩

/-- The registers that hold the tables, trackers apart. -/
def tableRegs : List Reg := [.npostfix, .ndirect, .cmode, .mapL, .mapD, .treesL, .treesI, .treesD]

/-- What writes no table, and no more of a tracker than its current block, keeps the tables valid. -/
theorem State.Tables.of_frame {W : List Reg} {s t : State} (hs : s.Tables) (h : Frame W s t)
    (hW : ∀ r ∈ tableRegs, r ∉ W)
    (htrackers : ∀ c, (t.tracker c).valid = true ∧ (t.tracker c).nbltypes = (s.tracker c).nbltypes) : t.Tables := by
  simp only [tableRegs, List.forall_mem_cons] at hW
  obtain ⟨hp, hd, hm, hmapL, hmapD, htreesL, htreesI, htreesD, -⟩ := hW
  have hL : t.trackerL.nbltypes = s.trackerL.nbltypes := (htrackers .L).2
  have hI : t.trackerI.nbltypes = s.trackerI.nbltypes := (htrackers .I).2
  have hD : t.trackerD.nbltypes = s.trackerD.nbltypes := (htrackers .D).2
  obtain ⟨hnL, hcmapL⟩ := h.same .mapL hmapL
  obtain ⟨hnD, hcmapD⟩ := h.same .mapD hmapD
  have hp' : t.npostfix = s.npostfix := h.same .npostfix hp
  have hd' : t.ndirect = s.ndirect := h.same .ndirect hd
  have hm' : t.cmode = s.cmode := h.same .cmode hm
  have hL' : t.htreeL = s.htreeL := h.same .treesL htreesL
  have hI' : t.htreeI = s.htreeI := h.same .treesI htreesI
  have hD' : t.htreeD = s.htreeD := h.same .treesD htreesD
  exact
    { trackers := fun c => (htrackers c).1
      parameters := by rw [hp', hd']; exact hs.parameters
      modes := by rw [hm', hL]; exact hs.modes
      literalMap := by rw [hL, hnL, hcmapL]; exact hs.literalMap
      literalTrees := by rw [hnL, hL']; exact hs.literalTrees
      commandTrees := by rw [hI, hI']; exact hs.commandTrees
      distanceMap := by rw [hD, hnD, hcmapD]; exact hs.distanceMap
      distanceTrees := by rw [hnD, hD', h.distanceAlphabet hp hd]; exact hs.distanceTrees }

/-- What writes no table and no tracker keeps the tables valid. -/
theorem State.Tables.of_frame_same {W : List Reg} {s t : State} (hs : s.Tables) (h : Frame W s t)
    (hW : ∀ r ∈ tableRegs, r ∉ W) (htrackers : ∀ c, .tracker c ∉ W) : t.Tables :=
  hs.of_frame h hW fun c => (h.same (.tracker c) (htrackers c) : t.tracker c = s.tracker c).symm ▸ ⟨hs.trackers c, rfl⟩

/-- What comes before a symbol keeps the tables valid. -/
theorem countSymbol_tables {s : State} (hs : s.Tables) (c : Category) :
    Ensures (fun t => t.Tables ∧ Frame [.tracker c] s t) (countSymbol c s) := by
  refine ((countSymbol_valid (hs.trackers c)).and (countSymbol_runs s c).frame).mono fun t ⟨hc, hframe⟩ =>
    ⟨hs.of_frame hframe (by simp [tableRegs]) fun c' => ?_, hframe⟩
  by_cases h : c' = c
  · exact h ▸ hc
  · have hsame : t.tracker c' = s.tracker c' := hframe.same (.tracker c') (by simpa using h)
    rw [hsame]
    exact ⟨hs.trackers c', rfl⟩

theorem literalMap_valid (s : State) :
    Ensures (fun t => validMap (64 * s.trackerL.nbltypes) t.ntreesL t.cmapL) (literalMap s) :=
  (contextMap_valid _ s).bind fun _ ⟨hcount, hlength, htrees⟩ => (ensures_ok _).mpr
    ⟨hlength, Nat.succ_pos _, Nat.succ_le_succ hcount, htrees⟩

theorem distanceMap_valid (s : State) :
    Ensures (fun t => validMap (4 * s.trackerD.nbltypes) t.ntreesD t.cmapD) (distanceMap s) :=
  (contextMap_valid _ s).bind fun _ ⟨hcount, hlength, htrees⟩ => (ensures_ok _).mpr
    ⟨hlength, Nat.succ_pos _, Nat.succ_le_succ hcount, htrees⟩

/-- SETUP leaves the tables of its meta-block valid. -/
theorem opSetup_tables (s : State) : Ensures State.Tables (opSetup s) := by
  refine ((blockHeader_valid .L s).and (blockHeader_runs s .L).frame).bind fun a ⟨hL, _⟩ => ?_
  refine ((blockHeader_valid .I a).and (blockHeader_runs a .I).frame).bind fun b ⟨hI, ab⟩ => ?_
  refine ((blockHeader_valid .D b).and (blockHeader_runs b .D).frame).bind fun c ⟨hD, bc⟩ => ?_
  refine ((distanceParameters_valid c).and (distanceParameters_runs c).frame).bind fun d ⟨hparams, cd⟩ => ?_
  refine ((contextModes_length d).and (contextModes_runs d).frame).bind fun e ⟨hmodes, de⟩ => ?_
  refine ((literalMap_valid e).and (literalMap_runs e).frame).bind fun f ⟨hmapL, ef⟩ => ?_
  refine ((distanceMap_valid f).and (distanceMap_runs f).frame).bind fun g ⟨hmapD, fg⟩ => ?_
  refine ((treeGroups_valid g).and (treeGroups_runs g).frame).bind fun h ⟨⟨htreesL, htreesI, htreesD⟩, gh⟩ => ?_
  have fh := fg.append gh
  have eh := ef.append fh
  have dh := de.append eh
  have ch := cd.append dh
  have bh := bc.append ch
  have ah := ab.append bh
  have hnpostfix : h.npostfix = d.npostfix := dh.same .npostfix (by decide)
  have hndirect : h.ndirect = d.ndirect := dh.same .ndirect (by decide)
  have hLd : h.trackerL = d.trackerL := dh.same (.tracker .L) (by decide)
  have hLe : h.trackerL = e.trackerL := eh.same (.tracker .L) (by decide)
  have hDf : h.trackerD = f.trackerD := fh.same (.tracker .D) (by decide)
  have hIg : h.trackerI = g.trackerI := gh.same (.tracker .I) (by decide)
  obtain ⟨hnL, hcmapL⟩ := fh.same .mapL (by decide)
  obtain ⟨hnLg, -⟩ := gh.same .mapL (by decide)
  obtain ⟨hnD, hcmapD⟩ := gh.same .mapD (by decide)
  have hcmode : h.cmode = e.cmode := eh.same .cmode (by decide)
  have halphabet : h.distanceAlphabet = g.distanceAlphabet := gh.distanceAlphabet (by decide) (by decide)
  have htrackers : ∀ c, (h.tracker c).valid = true := by
    rintro (_ | _ | _)
    · exact (ah.same (.tracker .L) (by decide)).symm ▸ hL
    · exact (bh.same (.tracker .I) (by decide)).symm ▸ hI
    · exact (ch.same (.tracker .D) (by decide)).symm ▸ hD
  have htables : h.Tables :=
    { trackers := htrackers, parameters := ?_, modes := ?_, literalMap := ?_, literalTrees := ?_, commandTrees := ?_
      distanceMap := ?_, distanceTrees := ?_ }
  · exact (ensures_ok _).mpr (htables.of_frame_same (W := [.cmdPhase, .state, .work, .rlemax]) (by simp [frame_iff])
      (by decide) (by simp))
  · rwa [hnpostfix, hndirect]
  · rwa [hcmode, hLd]
  · rwa [hLe, hnL, hcmapL]
  · rwa [hnLg]
  · rwa [hIg]
  · rwa [hDf, hnD, hcmapD]
  · rwa [hnD, halphabet]

end Sys2Proof.Machine
end

section
/-! SUPPORT. The operations from a sound state: what each leaves in the meta-block registers and the command registers, by the
decoder state it leads to (10_state.md R21 to R39; 42_metablock.md R128 to R140; 43_command_loop.md R161 to R184). -/

namespace Sys2Proof.Machine

/-- What `Sound` asks of the meta-block and command registers in the decoder state, for the states that an operation other than
STREAM_HEADER can lead to. -/
def State.bodySound (s : State) : Prop :=
  match s.state with
  | .metaBlockHeader | .done => True
  | .metadata => s.isMetadata = true
  | .uncompressedBody => s.isUncompressed = true ∧ s.isMetadata = false ∧ s.isLast = false ∧
    1 ≤ s.mlen ∧ s.mlen ≤ 2 ^ 24 ∧ s.remaining = s.mlen
  | .compressedSetup => s.isUncompressed = false ∧ s.isMetadata = false ∧
    1 ≤ s.mlen ∧ s.mlen ≤ 2 ^ 24 ∧ s.remaining = s.mlen
  | .commandLoop => s.isUncompressed = false ∧ s.isMetadata = false ∧
    1 ≤ s.remaining ∧ s.remaining ≤ s.mlen ∧ s.mlen ≤ 2 ^ 24 ∧ s.tablesValid = true ∧ s.phaseValid = true
  | .streamHeader | .error => False

/-- A sound end of an operation, in one of the decoder states listed. -/
def State.endsIn (sts : List DecState) (s : State) : Prop := s.bodySound ∧ s.state ∈ sts

/-- Where a meta-block ends (42_metablock.md R140). -/
theorem endOfMetaBlock_endsIn {sts : List DecState} (hh : .metaBlockHeader ∈ sts) {s : State}
    (hd : s.isLast = true → .done ∈ sts) : Ensures (State.endsIn sts) (endOfMetaBlock s) := by
  unfold endOfMetaBlock
  split
  · exact Ensures.bind (ensures_true _) fun t _ => (ensures_ok _).mpr ⟨trivial, hd ‹_›⟩
  · exact (ensures_ok _).mpr ⟨trivial, hh⟩

/-! ### Headers and bodies -/

/-- The header bits: an empty last meta-block ends the decode (42_metablock.md R132). -/
theorem mhdr_spec (s : State) :
    Ensures (fun t => t.isLast = true ∧ t.isLastEmpty = true → t.state = .done) (runElement (.field .mhdr) s) := by
  refine ensures_runField ?_
  simp only [fieldRows, bare, List.forall_mem_cons, List.not_mem_nil, IsEmpty.forall_iff, implies_true, and_true]
  refine ⟨fun _ _ => ?_, fun _ _ => ?_, fun _ _ => ?_⟩
  · exact Ensures.bind (ensures_true _) fun t _ => Ensures.bind (ensures_true _) fun u _ => (ensures_ok _).mpr fun _ => rfl
  · exact Ensures.bind (ensures_true _) fun t _ => (ensures_ok _).mpr fun h => by simp at h
  · exact Ensures.bind (ensures_true _) fun t _ => (ensures_ok _).mpr fun h => by simp at h

/-- Before nibble `k` of `n`: the nibbles read are in the accumulator, and all of them in MLEN once there are no more
(42_metablock.md R134). -/
structure State.readsLength (n k : Nat) (s : State) : Prop where
  nibbles : s.work.nibbles = n
  index : s.work.index = k
  acc : s.work.acc < 16 ^ k
  mlen : k = n → s.mlen = s.work.acc + 1

/-- What MNIBBLES leaves: a metadata meta-block, or the start of four to six nibbles (42_metablock.md R133). -/
def State.afterNibbles (s t : State) : Prop :=
  if t.isMetadata = true then t.state = .metadata ∧ t.work = s.work
  else t.work.nibbles ≤ 6 ∧ t.readsLength t.work.nibbles 0

theorem mnibbles_spec (s : State) : Ensures s.afterNibbles (runElement (.field .mnibbles) s) := by
  have hrow (n : Nat) (h0 : n ≠ 0) (h6 : n ≤ 6) : Ensures s.afterNibbles (dataNibbles n s) :=
    Ensures.bind (ensures_true _) fun t _ => (ensures_ok _).mpr ⟨h6, rfl, rfl, Nat.one_pos, fun h => absurd h.symm h0⟩
  refine ensures_runField ?_
  simp only [fieldRows, bare, List.forall_mem_cons, List.not_mem_nil, IsEmpty.forall_iff, implies_true, and_true]
  refine ⟨fun _ _ => hrow 4 (by decide) (by decide), fun _ _ => hrow 5 (by decide) (by decide),
    fun _ _ => hrow 6 (by decide) (by decide), fun _ _ => ?_⟩
  show Ensures _ (metadataNibbles s)
  simp only [metadataNibbles, ensures_bind, ensures_skip, Res.pure_eq, ensures_ok]
  exact fun _ => ⟨rfl, rfl⟩

theorem mlenNibble_spec {n k : Nat} {s : State} (hs : s.readsLength n k) :
    Ensures (State.readsLength n (k + 1)) (runElement (.field .mlen) s) := by
  obtain ⟨hn, hi, hacc, -⟩ := hs
  refine ensures_runField ?_
  simp only [fieldRows, wide, List.forall_mem_cons, List.not_mem_nil, IsEmpty.forall_iff, implies_true, and_true]
  intro x hx
  show Ensures _ (lengthNibble x s)
  have hor : s.work.acc ||| (x <<< (4 * k)) < 16 ^ (k + 1) := by
    have hpow (j : Nat) : 16 ^ j = 2 ^ (4 * j) := by rw [Nat.pow_mul]
    rw [hpow] at hacc ⊢
    refine Nat.or_lt_two_pow (hacc.trans (Nat.pow_lt_pow_right (by decide) (by omega))) ?_
    rw [Nat.shiftLeft_eq, show 4 * (k + 1) = 4 + 4 * k by omega, Nat.pow_add]
    exact Nat.mul_lt_mul_of_pos_right hx (Nat.two_pow_pos _)
  simp only [lengthNibble, ensures_bind, ensures_skip, ensures_ite, ensures_raise, ensures_ok, State.advance_work, implies_true,
    true_and, hi, hn]
  refine fun _ _ => ⟨fun _ => ⟨rfl, rfl, hor, fun _ => rfl⟩, fun h => ⟨rfl, rfl, hor, fun h' => absurd h' h⟩⟩

/-- The dispatch at the end of a data meta-block's header (42_metablock.md R136). -/
theorem dispatchBody_endsIn {s : State} (hm : s.isMetadata = false) (h1 : 1 ≤ s.mlen) (h24 : s.mlen ≤ 2 ^ 24)
    (hlast : s.isUncompressed = true → s.isLast = false) :
    Ensures (State.endsIn [.uncompressedBody, .compressedSetup]) (dispatchBody s) := by
  have hbody (b : Bool) (hb : s.isUncompressed = b) : State.endsIn [.uncompressedBody, .compressedSetup]
      (({ s with remaining := s.mlen } : State).goto (if b then .uncompressedBody else .compressedSetup)) := by
    cases b with
    | true => exact ⟨⟨hb, hm, hlast hb, h1, h24, rfl⟩, by simp [State.goto]⟩
    | false => exact ⟨⟨hb, hm, h1, h24, rfl⟩, by simp [State.goto]⟩
  unfold dispatchBody
  simp only [ensures_bind, ensures_ite, ensures_allocate, ensures_ok, Res.pure_eq]
  exact ⟨fun _ _ _ => hbody _ rfl, fun _ => hbody _ rfl⟩

theorem opMhdr_endsIn (s : State) :
    Ensures (fun t => t.endsIn [.done, .metadata, .uncompressedBody, .compressedSetup] ∧ (s.work = .idle → t.work = .idle))
      (opMhdr s) := by
  refine ((mhdr_spec s).and (runElement_runs (.field .mhdr) s).frame).bind fun t ⟨hdone, st⟩ => ?_
  have hwork : t.work = s.work := st.same .work (by decide)
  split
  · have hstate : t.state = .done := hdone (by simpa using ‹_›)
    exact (ensures_ok t).mpr ⟨by simp [State.endsIn, State.bodySound, hstate], hwork.trans⟩
  refine (mnibbles_spec t).bind fun u hu => ?_
  unfold State.afterNibbles at hu
  split at hu
  · obtain ⟨hstate, hwork'⟩ := hu
    rw [if_pos ‹_›]
    exact (ensures_ok u).mpr ⟨by simp [State.endsIn, State.bodySound, *], (hwork'.trans hwork).trans⟩
  rw [if_neg ‹_›]
  obtain ⟨h6, hread⟩ := hu
  refine ((ensures_iterate_count (fun k _ v => mlenNibble_spec) hread).and
    (Runs.iterate (fun v => runElement_runs (.field .mlen) v) _ u).frame).bind fun v ⟨hv, uv⟩ => ?_
  have hmeta : v.isMetadata = false := (uv.same .metadata (by decide)).trans (by simpa using ‹¬u.isMetadata = true›)
  have hmlen : v.mlen = v.work.acc + 1 := hv.mlen rfl
  have hacc : v.work.acc < 2 ^ 24 := hv.acc.trans_le (Nat.pow_le_pow_right (n := 16) (by decide) h6)
  have hbody {r : Res State} (hr : Ensures (State.endsIn [.uncompressedBody, .compressedSetup]) r) :
      Ensures (fun t => t.endsIn [.done, .metadata, .uncompressedBody, .compressedSetup] ∧
        (s.work = .idle → t.work = .idle)) (r >>= fun t => .ok t.rest) :=
    hr.bind fun w ⟨hw, hstate⟩ => (ensures_ok _).mpr ⟨⟨hw, List.mem_cons_of_mem _ (List.mem_cons_of_mem _ hstate)⟩, fun _ => rfl⟩
  split
  · exact hbody (dispatchBody_endsIn hmeta (by simp [hmlen]) (by simp [hmlen]; omega) nofun)
  · have hlast : v.isLast = false := by simpa using ‹¬v.isLast = true›
    refine hbody (ensures_runField ?_)
    have hrow (b : Bool) : Ensures (State.endsIn [.uncompressedBody, .compressedSetup]) (uncompressedFlag b v) :=
      Ensures.bind (P := fun w => w = v.advance 1) (by simp) fun w hw => by
        subst hw
        exact dispatchBody_endsIn hmeta (by simp [hmlen]) (by simp [hmlen]; omega) fun _ => hlast
    simp only [fieldRows, bare, List.forall_mem_cons, List.not_mem_nil, IsEmpty.forall_iff, implies_true, and_true]
    exact ⟨fun _ _ => hrow false, fun _ _ => hrow true⟩

theorem opMetadata_endsIn (s : State) :
    Ensures (fun t => t.endsIn [.metaBlockHeader, .done] ∧ t.work = .idle) (opMetadata s) := by
  refine Ensures.bind (ensures_true _) fun t _ => Ensures.bind (ensures_true _) fun u _ =>
    Ensures.bind (ensures_true _) fun v _ => Ensures.bind (ensures_true _) fun w _ =>
    Ensures.bind (ensures_true _) fun x _ => (endOfMetaBlock_endsIn (by simp) (by simp)).bind fun y hy =>
    (ensures_ok _).mpr ⟨hy, rfl⟩

theorem opUncompressed_endsIn {s : State} (hs : s.isLast = false) :
    Ensures (State.endsIn [.metaBlockHeader]) (opUncompressed s) := by
  intro t ht
  obtain ⟨u, hu, ht⟩ := Res.bind_eq_ok.mp ht
  obtain ⟨v, hv, ht⟩ := Res.bind_eq_ok.mp ht
  have hsu := (runElement_runs _ s).frame u hu
  have huv := (readBytes_runs (aligned_of_padding s hu) _).frame v hv
  have hlast : v.isLast = false := ((hsu.append huv).same .last (by simp [placeWrites])).1.trans hs
  exact endOfMetaBlock_endsIn (by simp) (s := { v with remaining := 0 }) (by simp [hlast]) t ht

theorem opSetup_ends (s : State) :
    Ensures (fun t => t.state = .commandLoop ∧ t.cmdPhase = .cmdBegin ∧ t.work = .idle) (opSetup s) := by
  simp [opSetup, State.goto, State.rest]

theorem opSetup_endsIn {s : State} (hs : s.isUncompressed = false ∧ s.isMetadata = false ∧
    1 ≤ s.mlen ∧ s.mlen ≤ 2 ^ 24 ∧ s.remaining = s.mlen) :
    Ensures (fun t => t.endsIn [.commandLoop] ∧ t.work = .idle) (opSetup s) := by
  intro t ht
  have hframe := (opSetup_runs s).frame t ht
  have hu : t.isUncompressed = s.isUncompressed := hframe.same .uncompressed (by decide)
  have hm : t.isMetadata = s.isMetadata := hframe.same .metadata (by decide)
  have hl : t.mlen = s.mlen := hframe.same .mlen (by decide)
  have hr : t.remaining = s.remaining := hframe.same .remaining (by decide)
  obtain ⟨hstate, hphase, hwork⟩ := opSetup_ends s t ht
  obtain ⟨hs1, hs2, hs3, hs4, hs5⟩ := hs
  refine ⟨⟨?_, by simp [hstate]⟩, hwork⟩
  simp only [State.bodySound, hstate]
  exact ⟨hu.trans hs1, hm.trans hs2, by omega, by omega, by omega, t.tablesValid_iff.mpr (opSetup_tables s t ht),
    by simp [State.phaseValid, hphase]⟩

/-! ### The command loop -/

/-- In the command loop at any moment of a command: the registers that `Sound` asks for there, but for the phase's own. -/
structure State.Commands (s : State) : Prop where
  state : s.state = .commandLoop
  uncompressed : s.isUncompressed = false
  metadata : s.isMetadata = false
  remaining : s.remaining ≤ s.mlen
  mlen : s.mlen ≤ 2 ^ 24
  tables : s.Tables

theorem Sound.commands {s : State} (hs : Sound s) (hstate : s.state = .commandLoop) :
    s.Commands ∧ 1 ≤ s.remaining ∧ s.phaseValid = true := by
  obtain ⟨hu, hm, h1, hr, hl, ht, hp⟩ := hs.inLoop hstate
  exact ⟨⟨hstate, hu, hm, hr, hl, s.tablesValid_iff.mp ht⟩, h1, hp⟩

/-- The registers that a part of a command leaves alone. -/
def loopRegs : List Reg := [.state, .uncompressed, .metadata, .mlen]

theorem State.Commands.of_frame {W : List Reg} {s t : State} (hs : s.Commands) (h : Frame W s t)
    (hW : ∀ r ∈ loopRegs, r ∉ W) (hr : t.remaining ≤ s.remaining) (ht : t.Tables) : t.Commands := by
  simp only [loopRegs, List.forall_mem_cons] at hW
  obtain ⟨hstate, hu, hm, hl, -⟩ := hW
  have hl' : t.mlen = s.mlen := h.same .mlen hl
  exact
    { state := (h.same .state hstate).trans hs.state
      uncompressed := (h.same .uncompressed hu).trans hs.uncompressed
      metadata := (h.same .metadata hm).trans hs.metadata
      remaining := hl' ▸ hr.trans hs.remaining
      mlen := hl' ▸ hs.mlen
      tables := ht }

/-- The decoder states that a part of a command leads to. -/
def loopEnds : List DecState := [.commandLoop, .metaBlockHeader, .done]

/-- A part of a command that leaves something to produce ends soundly where the phase's registers are valid. -/
theorem State.Commands.endsIn {s : State} (hs : s.Commands) (h1 : 1 ≤ s.remaining) (hp : s.phaseValid = true) :
    s.endsIn loopEnds := by
  refine ⟨?_, by simp [loopEnds, hs.state]⟩
  simp only [State.bodySound, hs.state]
  exact ⟨hs.uncompressed, hs.metadata, h1, hs.remaining, hs.mlen, s.tablesValid_iff.mpr hs.tables, hp⟩

theorem State.Commands.withPhase {s : State} (hs : s.Commands) (p : CmdPhase) : { s with cmdPhase := p }.Commands :=
  have hframe : Frame [.cmdPhase] s { s with cmdPhase := p } := by simp [frame_iff]
  hs.of_frame hframe (by decide) le_rfl (hs.tables.of_frame_same hframe (by decide) (by simp))

theorem postInsert_endsIn {s : State} (hs : s.Commands) (hcopy : 2 ≤ s.copyLen) (hctx : s.distCtx ≤ 3) :
    Ensures (State.endsIn loopEnds) (postInsert s) := by
  unfold postInsert
  split
  · exact endOfMetaBlock_endsIn (by decide) (fun _ => by decide)
  · exact (ensures_ok _).mpr ((hs.withPhase _).endsIn (Nat.pos_of_ne_zero ‹_›) (by simp [State.phaseValid, hcopy, hctx]))

theorem endOfCommand_endsIn {s : State} (hs : s.Commands) : Ensures (State.endsIn loopEnds) (endOfCommand s) := by
  unfold endOfCommand
  split
  · exact endOfMetaBlock_endsIn (by decide) (fun _ => by decide)
  · exact (ensures_ok _).mpr ((hs.withPhase _).endsIn (Nat.pos_of_ne_zero ‹_›) rfl)

end Sys2Proof.Machine
end

section
/-! SUPPORT. The operations of the command loop from a sound state: CMD, LIT, DIST, COPY and DICT leave command registers that fit
the phase they lead to (10_state.md R22, R38, R39; 43_command_loop.md R164 to R184, R189). -/

namespace Sys2Proof.Machine

/-! ### The registers of each phase -/

section
variable {s : State}

theorem State.phaseValid_insert (h : s.cmdPhase = .insert) : s.phaseValid = true ↔
    1 ≤ s.insertLen ∧ s.insertLen ≤ s.remaining ∧ 2 ≤ s.copyLen ∧ s.distCtx ≤ 3 := by
  simp [State.phaseValid, h, and_assoc]

theorem State.phaseValid_distance (h : s.cmdPhase = .distance) : s.phaseValid = true ↔ 2 ≤ s.copyLen ∧ s.distCtx ≤ 3 := by
  simp [State.phaseValid, h]

theorem State.phaseValid_copy (h : s.cmdPhase = .copy) : s.phaseValid = true ↔
    2 ≤ s.copyLen ∧ 1 ≤ s.distance ∧ s.dcode < s.distanceAlphabet ∧
    (16 + s.ndirect ≤ s.dcode ∨ s.distance ≤ max 120 (s.maxDist + 3)) := by
  simp [State.phaseValid, h, and_assoc]

end

/-! ### CMD -/

theorem copyCodeOf_lt {cell : Nat} (sym : Nat) (h : cell < 11) : copyCodeOf cell sym < 24 := by
  have hbase : ∀ c < 11, copyCodeBase.getD c 0 ≤ 16 := by decide
  have hand : sym &&& 7 ≤ 7 := Nat.and_le_right
  have := hbase cell h
  unfold copyCodeOf
  omega

/-- A copy length is at least 2, and its distance context at most 3 (30_encoding.md R83, R91). -/
theorem copyLength_spec {k : Nat} (hk : k < 24) (s : State) :
    Ensures (fun t => 2 ≤ t.copyLen ∧ t.distCtx ≤ 3) (copyLength k s) := by
  have hbase : ∀ k < 24, 2 ≤ copyBase.getD k 0 := by decide
  have := hbase k hk
  simp only [copyLength, ensures_bind, ensures_readBits, Res.pure_eq, ensures_ok]
  exact fun _ => ⟨by omega, Nat.min_le_right _ _⟩

/-- Where a command symbol leads (43_command_loop.md R168 to R170). -/
theorem command_endsIn {s : State} (hs : s.Commands) (h1 : 1 ≤ s.remaining) {cell : Nat} (hcell : cell < 11) (sym : Nat) :
    Ensures (State.endsIn loopEnds) (command cell sym s) := by
  refine (Ensures.bind (consume_runs s [] _ _).frame) fun t st => (Ensures.bind (insertLength_runs t _).frame) fun u tu => ?_
  refine ((copyLength_spec (copyCodeOf_lt sym hcell) u).and (copyLength_runs u _).frame).bind fun v ⟨⟨hcopy, hctx⟩, uv⟩ => ?_
  have sv : Frame _ s { v with implicitD0 := decide (cell ≤ 1) } :=
    ((st.append tu).append uv).append (V := [.implicitD0]) (by simp [frame_iff])
  have hremaining : v.remaining = s.remaining := sv.same .remaining (by decide)
  have hv := hs.of_frame sv (by decide) hremaining.le (hs.tables.of_frame_same sv (by decide) (by simp))
  dsimp only
  split
  · exact ensures_raise _ _ _
  split
  · have hinsert : v.insertLen ≤ v.remaining := Nat.le_of_not_lt ‹_›
    have hpos : 1 ≤ v.insertLen := ‹0 < v.insertLen›
    exact (ensures_ok _).mpr <| (hv.withPhase .insert).endsIn (hremaining ▸ h1)
      ((State.phaseValid_insert rfl).mpr ⟨hpos, hinsert, hcopy, hctx⟩)
  · exact postInsert_endsIn hv hcopy hctx

theorem State.Commands.counted {s t : State} {c : Category} (hs : s.Commands) (ht : t.Tables ∧ Frame [.tracker c] s t) :
    t.Commands :=
  hs.of_frame ht.2 (by simp [loopRegs]) (ht.2.same .remaining (by simp)).le ht.1

theorem opCmd_endsIn {s : State} (hs : s.Commands) (h1 : 1 ≤ s.remaining) : Ensures (State.endsIn loopEnds) (opCmd s) := by
  refine (countSymbol_tables hs.tables .I).bind fun t ht => ensures_runCode fun _ _ v _ hrow => ?_
  have hcell : v / 64 < 11 := by
    simpa [symbolRow, commandRows] using hrow
  exact command_endsIn (hs.counted ht) (h1.trans (ht.2.same .remaining (by simp)).ge) hcell v

/-! ### LIT -/

/-- Where a literal leads (43_command_loop.md R172, R173). -/
theorem literal_endsIn {s : State} (hs : s.Commands) (hphase : s.cmdPhase = .insert) (hvalid : s.phaseValid = true) (b : Byte) :
    Ensures (State.endsIn loopEnds) (literal b s) := by
  obtain ⟨h1, hinsert, hcopy, hctx⟩ := (State.phaseValid_insert hphase).mp hvalid
  simp only [literal, ensures_bind, ensures_consume]
  intro l _
  have hframe : Frame [.out, .remaining, .insertLen] s
      { (s.advance l).append b with remaining := s.remaining - 1, insertLen := s.insertLen - 1 } := by simp [frame_iff]
  have hnext := hs.of_frame hframe (by decide) (Nat.sub_le _ _) (hs.tables.of_frame_same hframe (by decide) (by simp))
  split
  · exact postInsert_endsIn hnext hcopy hctx
  · have hne : s.insertLen - 1 ≠ 0 := ‹_›
    refine (ensures_ok _).mpr (hnext.endsIn (show 1 ≤ s.remaining - 1 by omega) ((State.phaseValid_insert ?_).mpr
      ⟨Nat.one_le_iff_ne_zero.mpr hne, Nat.sub_le_sub_right hinsert 1, hcopy, hctx⟩))
    exact hphase

theorem opLit_endsIn {s : State} (hs : s.Commands) (hphase : s.cmdPhase = .insert) (hvalid : s.phaseValid = true) :
    Ensures (State.endsIn loopEnds) (opLit s) := by
  refine (countSymbol_tables hs.tables .L).bind fun t ht => ensures_runCode fun _ _ v _ _ => ?_
  have hphase' : t.cmdPhase = .insert := (ht.2.same .cmdPhase (by simp)).trans hphase
  refine literal_endsIn (hs.counted ht) hphase' ?_ _
  have hinsert : t.insertLen = s.insertLen := ht.2.same .insertLen (by simp)
  have hremaining : t.remaining = s.remaining := ht.2.same .remaining (by simp)
  obtain ⟨hcopy, hctx⟩ := ht.2.same .copyLen (by simp)
  rw [State.phaseValid_insert hphase] at hvalid
  rwa [State.phaseValid_insert hphase', hinsert, hremaining, hcopy, hctx]

/-! ### DIST -/

theorem State.ringEntryValid_iff {s : State} {d : Nat} : s.ringEntryValid d = true ↔ 1 ≤ d ∧ d ≤ max 16 s.maxDist := by
  simp [State.ringEntryValid]

/-- The ring condition of `Sound`. -/
def State.ringSound (s : State) : Prop :=
  s.ringEntryValid s.distRing.d0 = true ∧ s.ringEntryValid s.distRing.d1 = true ∧
  s.ringEntryValid s.distRing.d2 = true ∧ s.ringEntryValid s.distRing.d3 = true

/-- A ring entry stays valid as the output grows. -/
theorem State.ringEntryValid_mono {s t : State} (hw : t.wbits = s.wbits) (hpos : s.pos ≤ t.pos) {d : Nat}
    (h : s.ringEntryValid d = true) : t.ringEntryValid d = true := by
  rw [State.ringEntryValid_iff] at h ⊢
  have hmax : s.maxDist ≤ t.maxDist := by
    simp only [State.maxDist, State.maxBackward, State.windowSize, hw]
    omega
  omega

theorem Frame.ringSound {W : List Reg} {s t : State} (h : Frame W s t) (hw : .wbits ∉ W) (hr : .distRing ∉ W)
    (hs : s.ringSound) : t.ringSound := by
  have hring : t.distRing = s.distRing := h.same .distRing hr
  have hmono {d : Nat} := State.ringEntryValid_mono (h.same .wbits hw) h.pos_le (d := d)
  obtain ⟨h0, h1, h2, h3⟩ := hs
  unfold State.ringSound
  rw [hring]
  exact ⟨hmono h0, hmono h1, hmono h2, hmono h3⟩

/-- A short distance is at most 3 more than a ring entry (30_encoding.md R84). -/
theorem shortDistance_le {r : DistRing} {m : Nat} (h0 : r.d0 ≤ m) (h1 : r.d1 ≤ m) (h2 : r.d2 ≤ m) (h3 : r.d3 ≤ m)
    (code : Nat) : shortDistance r code ≤ m + 3 := by
  unfold shortDistance
  split <;> omega

theorem State.ringSound.shortDistance_le {s : State} (hs : s.ringSound) (code : Nat) :
    shortDistance s.distRing code ≤ max 120 (s.maxDist + 3) := by
  obtain ⟨h0, h1, h2, h3⟩ := hs
  rw [State.ringEntryValid_iff] at h0 h1 h2 h3
  have := Machine.shortDistance_le h0.2 h1.2 h2.2 h3.2 code
  omega

/-- A resolved distance goes to the copy phase. -/
theorem resolve_endsIn {s t : State} (hs : s.Commands) (h1 : 1 ≤ s.remaining) (hcopy : 2 ≤ s.copyLen) {n code : Nat} {d : Int}
    (ht : t = resolve code d (s.advance n)) (hcode : code < s.distanceAlphabet) (hd : 1 ≤ d)
    (hshort : code < 16 + s.ndirect → d ≤ max 120 (s.maxDist + 3)) : t.endsIn loopEnds := by
  subst ht
  have hframe : Frame [.distance, .cmdPhase] s (resolve code d (s.advance n)) := by simp [frame_iff, resolve]
  have hlong : 16 + s.ndirect ≤ code ∨ d ≤ max 120 (s.maxDist + 3) := (Nat.lt_or_ge code _).symm.imp_right hshort
  exact (hs.of_frame hframe (by decide) le_rfl (hs.tables.of_frame_same hframe (by decide) (by simp))).endsIn h1
    ((State.phaseValid_copy rfl).mpr ⟨hcopy, hd, hcode, hlong⟩)

/-- The distance code in force has the distance alphabet (43_command_loop.md R175). -/
theorem State.Tables.distanceCode_length {s : State} (hs : s.Tables) {T : PrefixCode} (hT : s.distanceCode = some T) :
    T.length = s.distanceAlphabet := by
  obtain ⟨j, -, hj⟩ := Option.bind_eq_some_iff.mp hT
  exact (validCode_iff.mp (hs.distanceTrees.2 T (List.mem_of_getElem? hj))).1

theorem longDistance_pos (npostfix ndirect code extra : Nat) : 1 ≤ longDistance npostfix ndirect code extra :=
  Nat.succ_pos _

/-- Where a distance symbol leads (43_command_loop.md R175 to R177). -/
theorem distanceSymbol_endsIn {s : State} (hs : s.Commands) (h1 : 1 ≤ s.remaining) (hcopy : 2 ≤ s.copyLen)
    (hring : s.ringSound) {v : Nat} (hv : v < s.distanceAlphabet) :
    Ensures (State.endsIn loopEnds) (symbolEffect (.distance s.ndirect) v s) := by
  obtain ⟨-, hdirect, -⟩ := hs.tables.parameters
  simp only [symbolEffect]
  split
  · simp only [shortCode, ensures_bind, ensures_consume, ensures_ite, ensures_raise, Res.pure_eq, ensures_ok, implies_true,
      true_and]
    exact fun l _ hpos => resolve_endsIn hs h1 hcopy rfl hv (by omega) fun _ => hring.shortDistance_le v
  split
  · simp only [directCode, ensures_bind, ensures_consume, Res.pure_eq, ensures_ok]
    exact fun l _ => resolve_endsIn hs h1 hcopy rfl hv (by omega) fun _ => by omega
  · simp only [longCode, ensures_bind, ensures_consume, ensures_readBits, Res.pure_eq, ensures_ok]
    refine fun l _ _ => resolve_endsIn hs h1 hcopy (n := l + distanceBits s.npostfix s.ndirect v)
      (d := longDistance s.npostfix s.ndirect v ((s.advance l).peek (distanceBits s.npostfix s.ndirect v)))
      (by simp [State.advance, Nat.add_assoc]) hv ?_ fun h => by omega
    exact Int.ofNat_le.mpr (longDistance_pos ..)

theorem opDist_endsIn {s : State} (hs : s.Commands) (h1 : 1 ≤ s.remaining) (hphase : s.cmdPhase = .distance)
    (hvalid : s.phaseValid = true) (hring : s.ringSound) : Ensures (State.endsIn loopEnds) (opDist s) := by
  obtain ⟨hcopy, -⟩ := (State.phaseValid_distance hphase).mp hvalid
  unfold opDist
  split
  · obtain ⟨hpos, hle⟩ := State.ringEntryValid_iff.mp hring.1
    exact (ensures_ok _).mpr (resolve_endsIn hs h1 hcopy (n := 0) rfl (by simp [State.distanceAlphabet]) (by omega)
      fun _ => by omega)
  · refine (countSymbol_tables hs.tables .D).bind fun t ht => ensures_runCode fun T hT v hv _ => ?_
    rw [ht.1.distanceCode_length hT] at hv
    exact distanceSymbol_endsIn (hs.counted ht) (h1.trans (ht.2.same .remaining (by simp)).ge)
      (hcopy.trans (ht.2.same .copyLen (by simp)).1.ge) (ht.2.ringSound (by simp) (by simp) hring) hv

/-! ### COPY and DICT -/

theorem opCopy_endsIn {s : State} (hs : s.Commands) : Ensures (State.endsIn loopEnds) (opCopy s) := by
  have hpush (u : State) (hu : u = s ∨ u = { s with distRing := s.distRing.push s.distance.toNat }) :
      Frame [.distRing] s u := by
    obtain rfl | rfl := hu <;> simp [frame_iff]
  unfold opCopy
  extract_lets u
  have hu : Frame [.distRing] s u := hpush u (by unfold u; split <;> simp)
  split
  · exact ensures_raise _ _ _
  refine Ensures.bind (copyBackward_runs u _ _).frame fun v uv => endOfCommand_endsIn ?_
  have hremaining : v.remaining = s.remaining := (hu.append uv).same .remaining (by decide)
  have hv : Frame _ s { v with remaining := v.remaining - v.copyLen } :=
    (hu.append uv).append (V := [.remaining]) (by simp [frame_iff])
  exact hs.of_frame hv (by decide) ((Nat.sub_le _ _).trans hremaining.le)
    (hs.tables.of_frame_same hv (by decide) (by simp))

/-- A backward copy pushes its distance, or leaves the ring as it is (43_command_loop.md R179). -/
theorem opCopy_ring (s : State) :
    Ensures (fun t => t.distRing = if s.dcode = 0 then s.distRing else s.distRing.push s.distance.toNat) (opCopy s) := by
  unfold opCopy
  extract_lets u
  have hu : u.distRing = if s.dcode = 0 then s.distRing else s.distRing.push s.distance.toNat := by unfold u; split <;> rfl
  rw [← hu]
  split
  · exact ensures_raise _ _ _
  refine Ensures.bind (copyBackward_runs u _ _).frame fun v uv => (endOfCommand_runs _).frame.mono ?_
  exact fun w hw => (hw.same .distRing (by decide)).trans (uv.same .distRing (by decide))

theorem opDict_endsIn {s : State} (hs : s.Commands) :
    Ensures (fun t => t.endsIn loopEnds ∧ t.work = .idle) (opDict s) := by
  unfold opDict
  split
  · exact ensures_raise _ _ _
  split
  · exact ensures_raise _ _ _
  have hu : Frame [.work, .rlemax] s { s with work := { s.work with wordId := (s.distance - s.maxDist - 1).toNat } } := by
    simp [frame_iff]
  refine Ensures.bind (runElement_runs (.entry .dictBucket _) _).frame fun v uv =>
    Ensures.bind (runElement_runs (.entry .transform _) v).frame fun w vw => ?_
  dsimp only
  split
  · exact ensures_raise _ _ _
  have sw := (hu.append uv).append vw
  have hremaining : w.remaining = s.remaining := sw.same .remaining (by simp [placeWrites])
  have hx : Frame _ s { w.appendAll w.work.word with remaining := w.remaining - w.work.word.length } :=
    sw.append (V := [.out, .remaining]) (by simp [frame_iff])
  refine (endOfCommand_endsIn (hs.of_frame hx ?_ ((Nat.sub_le _ _).trans hremaining.le)
    (hs.tables.of_frame_same hx ?_ ?_))).bind fun y hy => (ensures_ok _).mpr ⟨hy, rfl⟩
  · simp [loopRegs, placeWrites]
  · simp [tableRegs, placeWrites]
  · simp [placeWrites]

end Sys2Proof.Machine
end

section
/-! Obligations O10 and O14. A step from a sound state: the state it leads to is sound, and its decoder state follows a permitted
transition. -/

namespace Sys2Proof.Machine

/-- What O14 says of the decoder states of a step. -/
def State.follows (s t : State) : Prop :=
  t.state = s.state ∨ t.state = .error ∨ (s.state, t.state) ∈ permitted ∨
  (s.state = .streamHeader ∧ t.state = .done ∧ s.inp.size = 0 ∧ s.params.emptyInputOk = true)

/-- Between the stream header and the end of the decode. -/
def State.running (s : State) : Prop := s.state ≠ .streamHeader ∧ s.state ≠ .done ∧ s.state ≠ .error

theorem Sound.no_error {s : State} (hs : Sound s) (h : s.state ≠ .error) : s.err.isSome = false := by
  rwa [← Bool.not_eq_true, hs.errorRecorded]

/-- A sound end of an operation is a sound state. -/
theorem Sound.of_frame {W : List Reg} {s t : State} (hs : Sound s) (hstate : s.running) (h : Frame W s t)
    (hw : .wbits ∉ W) (hcursor : t.cursorIn) (hring : t.ringSound) (hwork : t.work = .idle) (hbody : t.bodySound) :
    Sound t := by
  obtain ⟨hheader, hdone, herror⟩ := hstate
  obtain ⟨h10, h24, hdict⟩ := hs.streamOpen hheader hdone herror
  have herr : t.err.isSome = false := h.err ▸ hs.no_error herror
  have hwbits : t.wbits = s.wbits := h.same .wbits hw
  unfold State.bodySound at hbody
  exact
    { inputCanonical := h.inp ▸ hs.inputCanonical
      outputCanonical := h.out_wf hs.outputCanonical
      dictCanonical := h.dict ▸ hs.dictCanonical
      cursorInInput := hcursor
      ringValid := hring
      errorRecorded := by simp only [herr, Bool.false_eq_true, false_iff]; intro he; simp [he] at hbody
      workIdle := hwork
      atStart := fun he => by simp [he] at hbody
      streamOpen := fun _ _ _ => ⟨hwbits ▸ h10, hwbits ▸ h24, h.dict ▸ hdict⟩
      inMetadata := fun he => by simpa [he] using hbody
      inUncompressed := fun he => by simpa [he] using hbody
      inSetup := fun he => by simpa [he] using hbody
      inLoop := fun he => by simpa [he] using hbody }

/-- An error that is taken leaves a sound state (60_exceptions.md R211). -/
theorem Sound.takeError {s : State} (hs : Sound s) (k : ErrorKind) (m : String) {p : Nat} (hp : p ≤ s.inputBits) :
    Sound (takeError k m { s with bitpos := p }) :=
  { inputCanonical := hs.inputCanonical
    outputCanonical := hs.outputCanonical
    dictCanonical := hs.dictCanonical
    cursorInInput := hp
    ringValid := hs.ringValid
    errorRecorded := ⟨fun _ => rfl, fun _ => rfl⟩
    workIdle := hs.workIdle
    atStart := nofun
    streamOpen := fun _ _ he => absurd rfl he
    inMetadata := nofun
    inUncompressed := nofun
    inSetup := nofun
    inLoop := nofun }

section
variable {s : State} (hs : Sound s)
include hs

/-- An operation after the stream header that ends soundly, in decoder states that may follow. -/
theorem Sound.ensures {W : List Reg} {sts : List DecState} {r : Res State} (hrun : Runs W s r) (hw : .wbits ∉ W)
    (hring : Ensures State.ringSound r) (hends : Ensures (fun t => t.endsIn sts ∧ t.work = .idle) r)
    (hstate : s.running) (hsts : ∀ st ∈ sts, st = s.state ∨ (s.state, st) ∈ permitted) :
    Ensures (fun t => Sound t ∧ s.follows t) r := fun t ht => by
  obtain ⟨⟨hbody, hmem⟩, hwork⟩ := hends t ht
  exact ⟨hs.of_frame hstate (hrun.frame t ht) hw (hrun.cursor hs.cursorInInput t ht) (hring t ht) hwork hbody,
    (hsts _ hmem).imp_right fun h => .inr (.inl h)⟩

theorem Sound.ring {W : List Reg} {r : Res State} (hrun : Runs W s r) (hw : .wbits ∉ W) (hd : .distRing ∉ W) :
    Ensures State.ringSound r := fun t ht => (hrun.frame t ht).ringSound hw hd hs.ringValid

theorem Sound.idle {W : List Reg} {r : Res State} (hrun : Runs W s r) (hw : .work ∉ W) :
    Ensures (fun t => t.work = .idle) r := fun t ht => ((hrun.frame t ht).same .work hw).trans hs.workIdle

end
/-- The distance that a copy pushes lies within the maximum backward distance (43_command_loop.md R178, R179). -/
theorem Sound.copy_ring {s : State} (hs : Sound s) (hphase : s.cmdPhase = .copy) (hvalid : s.phaseValid = true)
    (hbeyond : s.beyond = false) : Ensures State.ringSound (opCopy s) := fun t ht => by
  have hframe := (opCopy_runs s).frame t ht
  have hmono {d : Nat} := State.ringEntryValid_mono (hframe.same .wbits (by decide)) hframe.pos_le (d := d)
  obtain ⟨-, hpositive, -⟩ := (State.phaseValid_copy hphase).mp hvalid
  have hmax : s.distance ≤ s.maxDist := by simpa [State.beyond] using hbeyond
  have hpush : s.ringEntryValid s.distance.toNat = true := by
    rw [State.ringEntryValid_iff]
    omega
  obtain ⟨h0, h1, h2, h3⟩ := hs.ringValid
  unfold State.ringSound
  rw [opCopy_ring s t ht]
  split
  · exact ⟨hmono h0, hmono h1, hmono h2, hmono h3⟩
  · exact ⟨hmono hpush, hmono h0, hmono h1, hmono h2⟩

/-! ### STREAM_HEADER -/

/-- The window sizes (42_metablock.md R129, R130). -/
theorem wbits_spec (s : State) :
    Ensures (fun t => t.state = .metaBlockHeader ∧ 10 ≤ t.wbits ∧ t.wbits ≤ 24) (runElement (.field .wbits) s) := by
  have hrow (n w : Nat) (h10 : 10 ≤ w) (h24 : w ≤ 24) :
      Ensures (fun t => t.state = .metaBlockHeader ∧ 10 ≤ t.wbits ∧ t.wbits ≤ 24) (setWindow n w s) :=
    Ensures.bind (ensures_true _) fun t _ => (ensures_ok _).mpr ⟨rfl, h10, h24⟩
  refine ensures_runField ?_
  simp only [fieldRows, bare, List.forall_mem_cons, List.not_mem_nil, IsEmpty.forall_iff, implies_true, and_true]
  exact ⟨fun _ _ => hrow 1 16 (by decide) (by decide), fun _ _ => hrow 4 18 (by decide) (by decide),
    fun _ _ => hrow 4 19 (by decide) (by decide), fun _ _ => hrow 4 20 (by decide) (by decide),
    fun _ _ => hrow 4 21 (by decide) (by decide), fun _ _ => hrow 4 22 (by decide) (by decide),
    fun _ _ => hrow 4 23 (by decide) (by decide), fun _ _ => hrow 4 24 (by decide) (by decide),
    fun _ _ => hrow 7 17 (by decide) (by decide), fun _ _ => largeWindow_stops _ 7,
    fun _ _ => hrow 7 10 (by decide) (by decide), fun _ _ => hrow 7 11 (by decide) (by decide),
    fun _ _ => hrow 7 12 (by decide) (by decide), fun _ _ => hrow 7 13 (by decide) (by decide),
    fun _ _ => hrow 7 14 (by decide) (by decide), fun _ _ => hrow 7 15 (by decide) (by decide)⟩

section
variable {s : State} (hs : Sound s) (hstate : s.state = .streamHeader)
include hs hstate

/-- The stream header leads to a sound state where it opens the stream or ends an empty input. -/
theorem Sound.opened {t : State} (h : Frame [.wbits, .state] s t) (hcursor : t.cursorIn)
    (hnext : t.state = .done ∨ t.state = .metaBlockHeader ∧ 10 ≤ t.wbits ∧ t.wbits ≤ 24)
    (hdict : ∀ d, s.dict = some d → d.size = Config.dictSize) : Sound t := by
  have hne : t.state ≠ .streamHeader ∧ t.state ≠ .error ∧ t.state ≠ .metadata ∧ t.state ≠ .uncompressedBody ∧
      t.state ≠ .compressedSetup ∧ t.state ≠ .commandLoop := by
    obtain h | ⟨h, -⟩ := hnext <;> simp [h]
  obtain ⟨hheader, herror, hmetadata, huncompressed, hsetup, hloop⟩ := hne
  have herr : t.err.isSome = false := h.err ▸ hs.no_error (by simp [hstate])
  have hpos : s.pos = 0 := by simp [State.pos, Memory.size, (hs.atStart hstate).2]
  have hentry {d : Nat} (hd : s.ringEntryValid d = true) : t.ringEntryValid d = true := by
    rw [State.ringEntryValid_iff] at hd ⊢
    have hmax : s.maxDist = 0 := by simp [State.maxDist, hpos]
    omega
  have hring : t.distRing = s.distRing := h.same .distRing (by decide)
  obtain ⟨h0, h1, h2, h3⟩ := hs.ringValid
  exact
    { inputCanonical := h.inp ▸ hs.inputCanonical
      outputCanonical := h.out_wf hs.outputCanonical
      dictCanonical := h.dict ▸ hs.dictCanonical
      cursorInInput := hcursor
      ringValid := hring ▸ ⟨hentry h0, hentry h1, hentry h2, hentry h3⟩
      errorRecorded := by simp only [herr, Bool.false_eq_true, false_iff]; exact herror
      workIdle := (h.same .work (by decide)).trans hs.workIdle
      atStart := fun he => absurd he hheader
      streamOpen := fun _ hdone _ => ⟨(hnext.resolve_left hdone).2.1, (hnext.resolve_left hdone).2.2, h.dict ▸ hdict⟩
      inMetadata := fun he => absurd he hmetadata
      inUncompressed := fun he => absurd he huncompressed
      inSetup := fun he => absurd he hsetup
      inLoop := fun he => absurd he hloop }

theorem header_sound (hdict : ∀ d, s.dict = some d → d.size = Config.dictSize) :
    Ensures (fun t => Sound t ∧ s.follows t) (opStreamHeader.header s) := by
  unfold opStreamHeader.header
  split
  · obtain ⟨hsize, hempty⟩ := ‹s.inp.size = 0 ∧ s.params.emptyInputOk = true›
    exact (ensures_ok _).mpr ⟨hs.opened hstate (by simp [frame_iff, State.goto]) hs.cursorInInput (.inl rfl) hdict,
      .inr (.inr (.inr ⟨hstate, rfl, hsize, hempty⟩))⟩
  · intro t ht
    have hnext := wbits_spec s t ht
    have hrun := runElement_runs (.field .wbits) s
    refine ⟨hs.opened hstate (hrun.frame t ht) (hrun.cursor hs.cursorInInput t ht) (.inr hnext) hdict, .inr (.inr (.inl ?_))⟩
    rw [hstate, hnext.1]
    decide

theorem opStreamHeader_sound : Ensures (fun t => Sound t ∧ s.follows t) (opStreamHeader s) := by
  unfold opStreamHeader
  split
  · rename_i d hd
    split
    · exact header_sound hs hstate fun d' hd' => by simp_all
    · exact ensures_raise _ _ _
  · exact header_sound hs hstate fun d' hd' => by simp_all

end

/-! ### Every step -/

/-- The operations of the command loop. -/
theorem loop_sound {s : State} (hs : Sound s) (hstate : s.state = .commandLoop) {i : Instr}
    (hi : operationRow s.state s.cmdPhase s.beyond = some i) : Ensures (fun t => Sound t ∧ s.follows t) (effect i s) := by
  obtain ⟨hc, h1, hvalid⟩ := hs.commands hstate
  have hrunning : s.running := by simp [State.running, hstate]
  have hsts : ∀ st ∈ loopEnds, st = s.state ∨ (s.state, st) ∈ permitted := by rw [hstate]; decide
  cases hphase : s.cmdPhase with
  | cmdBegin =>
    obtain rfl : .cmd = i := by simpa [operationRow, hstate, hphase] using hi
    have hrun := opCmd_runs s
    exact hs.ensures hrun (by decide) (hs.ring hrun (by decide) (by decide))
      ((opCmd_endsIn hc h1).and (hs.idle hrun (by decide))) hrunning hsts
  | insert =>
    obtain rfl : .lit = i := by simpa [operationRow, hstate, hphase] using hi
    have hrun := opLit_runs s
    exact hs.ensures hrun (by decide) (hs.ring hrun (by decide) (by decide))
      ((opLit_endsIn hc hphase hvalid).and (hs.idle hrun (by decide))) hrunning hsts
  | distance =>
    obtain rfl : .dist = i := by simpa [operationRow, hstate, hphase] using hi
    have hrun := opDist_runs s
    exact hs.ensures hrun (by decide) (hs.ring hrun (by decide) (by decide))
      ((opDist_endsIn hc h1 hphase hvalid hs.ringValid).and (hs.idle hrun (by decide))) hrunning hsts
  | copy =>
    cases hbeyond : s.beyond with
    | false =>
      obtain rfl : .copy = i := by simpa [operationRow, hstate, hphase, hbeyond] using hi
      have hrun := opCopy_runs s
      exact hs.ensures hrun (by decide) (hs.copy_ring hphase hvalid hbeyond)
        ((opCopy_endsIn hc).and (hs.idle hrun (by decide))) hrunning hsts
    | true =>
      obtain rfl : .dict = i := by simpa [operationRow, hstate, hphase, hbeyond] using hi
      have hrun := opDict_runs s
      exact hs.ensures hrun (by decide) (hs.ring hrun (by decide) (by decide)) (opDict_endsIn hc) hrunning hsts

theorem effect_sound {s : State} (hs : Sound s) {i : Instr} (hi : operationRow s.state s.cmdPhase s.beyond = some i) :
    Ensures (fun t => Sound t ∧ s.follows t) (effect i s) := by
  cases hstate : s.state with
  | streamHeader =>
    obtain rfl : .streamHeader = i := by simpa [operationRow, hstate] using hi
    exact opStreamHeader_sound hs hstate
  | metaBlockHeader =>
    obtain rfl : .mhdr = i := by simpa [operationRow, hstate] using hi
    have hrun := opMhdr_runs s
    exact hs.ensures hrun (by decide) (hs.ring hrun (by decide) (by decide))
      ((opMhdr_endsIn s).mono fun t ⟨ht, hwork⟩ => ⟨ht, hwork hs.workIdle⟩) (by simp [State.running, hstate])
      (by rw [hstate]; decide)
  | metadata =>
    obtain rfl : .metadata = i := by simpa [operationRow, hstate] using hi
    have hrun := opMetadata_runs s
    exact hs.ensures hrun (by decide) (hs.ring hrun (by decide) (by decide)) (opMetadata_endsIn s)
      (by simp [State.running, hstate]) (by rw [hstate]; decide)
  | uncompressedBody =>
    obtain rfl : .uncompressed = i := by simpa [operationRow, hstate] using hi
    have hrun := opUncompressed_runs s
    obtain ⟨-, -, hlast, -⟩ := hs.inUncompressed hstate
    exact hs.ensures hrun (by decide) (hs.ring hrun (by decide) (by decide))
      ((opUncompressed_endsIn hlast).and (hs.idle hrun (by decide))) (by simp [State.running, hstate]) (by rw [hstate]; decide)
  | compressedSetup =>
    obtain rfl : .setup = i := by simpa [operationRow, hstate] using hi
    have hrun := opSetup_runs s
    exact hs.ensures hrun (by decide) (hs.ring hrun (by decide) (by decide)) (opSetup_endsIn (hs.inSetup hstate))
      (by simp [State.running, hstate]) (by rw [hstate]; decide)
  | commandLoop => exact loop_sound hs hstate hi
  | done => simp [operationRow, hstate] at hi
  | error => simp [operationRow, hstate] at hi

/-- A step keeps a state sound and follows a permitted transition. -/
theorem step_sound {s t : State} (hs : Sound s) (h : step s = .next t) : Sound t ∧ s.follows t := by
  obtain ⟨i, hi, hstep⟩ | ⟨-, hstep⟩ := step_cases s
  · obtain ⟨ht, -⟩ | ⟨k, m, p, hraise, rfl⟩ := exec_frame (hstep ▸ h)
    · exact effect_sound hs (fetch_operation hi) t ht
    · exact ⟨hs.takeError k m ((effect_runs i s).raised hs.cursorInInput k m p hraise), .inr (.inl rfl)⟩
  · cases hstep ▸ h
    exact ⟨hs, .inl rfl⟩

/-- Settles O10: every operation ends soundly, and an error that is taken leaves a sound state. -/
theorem stepKeepsTheInvariant : Obligations.StepKeepsTheInvariant := fun _ _ hs h => (step_sound hs h).1

/-- Settles O14: an operation ends in the decoder states that R21 lists for its own, or as R232 says of an empty input. -/
theorem onlyPermittedTransitions : Obligations.OnlyPermittedTransitions := fun _ _ hs h => (step_sound hs h).2

end Sys2Proof.Machine
end

section
/-! SUPPORT. Reading a field whose bits are known: the row whose fixed bits stand at the cursor is the one that is read
(30_encoding.md R70 to R76). -/

namespace Sys2Proof.Machine

/-- The bits of a run spell its field. -/
theorem Memory.bits_eq_bitsOf (m : Memory) (p n : Nat) : m.bits p n = bitsOf n (m.field p n) := by
  induction n generalizing p with
  | zero => rfl
  | succ n ih =>
    have hmod : (m.field p (n + 1)) % 2 = (m.bit p).toNat := by
      have := Bool.toNat_lt (m.bit p)
      simp only [Memory.field]
      omega
    have hdiv : (m.field p (n + 1)) / 2 = m.field (p + 1) n := by
      have := Bool.toNat_lt (m.bit p)
      simp only [Memory.field]
      omega
    rw [bitsOf, hmod, hdiv, Memory.bits, ih]
    cases m.bit p <;> rfl

/-- Bits that are left in the input stand first in the window. -/
theorem State.window_prefix {s : State} {n : Nat} (h : s.has n) (h16 : n ≤ 16) : s.inp.bits s.bitpos n <+: s.window := by
  obtain ⟨k, hk⟩ : ∃ k, min longestElement (s.inputBits - s.bitpos) = n + k :=
    Nat.exists_eq_add_of_le (by simp only [State.has, longestElement] at h ⊢; omega)
  rw [State.window, hk, Memory.bits_add]
  exact List.prefix_append _ _

/-- The rows of a field are told apart by their fixed bits. -/
theorem fieldRows_prefixFree (f : Field) :
    ((fieldRows f).map FieldRow.fixed).Nodup ∧
    ∀ b ∈ (fieldRows f).map FieldRow.fixed, ∀ b' ∈ (fieldRows f).map FieldRow.fixed, b <+: b' → b = b' := by
  cases f <;> decide

theorem fieldRows_unique {f : Field} {r r' : FieldRow} (hr : r ∈ fieldRows f) (hr' : r' ∈ fieldRows f) {bits : Bits}
    (h : r.fixed <+: bits) (h' : r'.fixed <+: bits) : r' = r := by
  obtain ⟨hnodup, hfree⟩ := fieldRows_prefixFree f
  have hm := List.mem_map_of_mem (f := FieldRow.fixed) hr
  have hm' := List.mem_map_of_mem (f := FieldRow.fixed) hr'
  refine List.inj_on_of_nodup_map hnodup hr' hr ?_
  obtain hp | hp := List.prefix_or_prefix_of_prefix h h'
  · exact (hfree _ hm _ hm' hp).symm
  · exact hfree _ hm' _ hm hp

/-- A field whose row stands at the cursor is that row, with its operand. -/
theorem runElement_row {f : Field} {r : FieldRow} (hr : r ∈ fieldRows f) {s : State}
    (h : s.has (r.fixed.length + r.width)) (h16 : r.fixed.length + r.width ≤ 16)
    (hbits : s.inp.bits s.bitpos r.fixed.length = r.fixed) :
    runElement (.field f) s = elem (r.instr (s.inp.field (s.bitpos + r.fixed.length) r.width)) s := by
  have hwindow := State.window_prefix h h16
  rw [Memory.bits_add, hbits] at hwindow
  have hfixed : r.fixed <+: s.window := (List.prefix_append _ _).trans hwindow
  have hfind : (fieldRows f).find? (fun r => r.fixed.isPrefixOf s.window) = some r := by
    cases hfound : (fieldRows f).find? (fun r => r.fixed.isPrefixOf s.window) with
    | none => exact absurd (List.isPrefixOf_iff_prefix.mpr hfixed) (List.find?_eq_none.mp hfound r hr)
    | some r' =>
      have hr' := List.isPrefixOf_iff_prefix.mp (List.find?_some (p := fun r : FieldRow => r.fixed.isPrefixOf s.window) hfound)
      rw [fieldRows_unique hr (List.mem_of_find?_eq_some hfound) hfixed hr']
  have hlength : ¬s.window.length < r.fixed.length + r.width := by
    have := hwindow.length_le
    simp at this
    omega
  have hoperand : (s.window.drop r.fixed.length).take r.width = s.inp.bits (s.bitpos + r.fixed.length) r.width := by
    obtain ⟨rest, hrest⟩ := hwindow
    rw [← hrest, List.append_assoc, List.drop_left, List.take_left' (by simp)]
  refine runElement_eq (n := r.fixed.length + r.width) ?_
  simp only [decode, decodeField, hfind, hlength, if_false, hoperand, Memory.valueOf_bits]

/-- A row of fixed bits alone, by their value. -/
theorem runElement_bare {f : Field} {l : List Nat} {i : Instr} (hr : bare l i ∈ fieldRows f) {s : State}
    (h : s.has l.length) (h16 : l.length ≤ 16) {v : Nat} (hv : s.peek l.length = v) (hl : bitsOf l.length v = pattern l) :
    runElement (.field f) s = elem i s := by
  have hlength : (pattern l).length = l.length := by simp [pattern]
  refine runElement_row hr (s := s) ?_ ?_ ?_
  · simpa [bare, hlength] using h
  · simpa [bare, hlength] using h16
  · simp only [bare, hlength]
    rw [Memory.bits_eq_bitsOf, ← hl]
    exact congrArg (bitsOf l.length) hv

/-! ### The fields of a header -/

section
variable {s : State}

theorem runElement_varlen_zero (h : s.has 1) (hv : s.peek 1 = 0) : runElement (.field .varlen) s = setCount 1 0 s :=
  runElement_bare (l := [0]) (i := .varlen0) (by simp [fieldRows]) h (by decide) hv rfl

theorem peek_two_cases (s : State) : s.peek 2 = 0 ∨ s.peek 2 = 1 ∨ s.peek 2 = 2 ∨ s.peek 2 = 3 := by
  have := s.inp.field_lt s.bitpos 2
  simp only [State.peek]
  omega

theorem runElement_npostfix (h : s.has 2) : runElement (.field .npostfix) s = setPostfix (s.peek 2) s := by
  obtain hv | hv | hv | hv := peek_two_cases s <;> rw [hv]
  · exact runElement_bare (l := [0, 0]) (i := .npostfix0) (by simp [fieldRows]) h (by decide) hv rfl
  · exact runElement_bare (l := [1, 0]) (i := .npostfix1) (by simp [fieldRows]) h (by decide) hv rfl
  · exact runElement_bare (l := [0, 1]) (i := .npostfix2) (by simp [fieldRows]) h (by decide) hv rfl
  · exact runElement_bare (l := [1, 1]) (i := .npostfix3) (by simp [fieldRows]) h (by decide) hv rfl

theorem runElement_ndirect (h : s.has 4) : runElement (.field .ndirect) s = setDirect (s.peek 4) s :=
  runElement_row (f := .ndirect) (r := wide [] 4 .ndirect) (by simp [fieldRows]) h (by decide) rfl

theorem runElement_cmode (h : s.has 2) : runElement (.field .cmode) s =
    pushMode ([CtxMode.lsb6, .msb6, .utf8, .signed].getD (s.peek 2) .lsb6) s := by
  obtain hv | hv | hv | hv := peek_two_cases s <;> rw [hv]
  · exact runElement_bare (l := [0, 0]) (i := .cmodeLsb6) (by simp [fieldRows]) h (by decide) hv rfl
  · exact runElement_bare (l := [1, 0]) (i := .cmodeMsb6) (by simp [fieldRows]) h (by decide) hv rfl
  · exact runElement_bare (l := [0, 1]) (i := .cmodeUtf8) (by simp [fieldRows]) h (by decide) hv rfl
  · exact runElement_bare (l := [1, 1]) (i := .cmodeSigned) (by simp [fieldRows]) h (by decide) hv rfl

theorem runElement_hskip_simple (h : s.has 2) (hv : s.peek 2 = 1) : runElement (.field .hskip) s = startSimple s :=
  runElement_bare (l := [1, 0]) (i := .hskip1) (by simp [fieldRows]) h (by decide) hv rfl

theorem runElement_hskip_complex (h : s.has 2) (hv : s.peek 2 ≠ 1) :
    runElement (.field .hskip) s = startComplex (s.peek 2) s := by
  obtain hv | hv' | hv | hv := peek_two_cases s
  · rw [hv]
    exact runElement_bare (l := [0, 0]) (i := .hskip0) (by simp [fieldRows]) h (by decide) hv rfl
  · exact absurd hv' hv
  · rw [hv]
    exact runElement_bare (l := [0, 1]) (i := .hskip2) (by simp [fieldRows]) h (by decide) hv rfl
  · rw [hv]
    exact runElement_bare (l := [1, 1]) (i := .hskip3) (by simp [fieldRows]) h (by decide) hv rfl

theorem runElement_nsym_one (h : s.has 2) (hv : s.peek 2 = 0) : runElement (.field .nsym) s = simpleSymbols 1 s :=
  runElement_bare (l := [0, 0]) (i := .nsym1) (by simp [fieldRows]) h (by decide) hv rfl

/-- The bits of a code-length-code length (30_encoding.md R76). -/
def clclPattern (v : Nat) : List Nat := [[0, 0], [1, 1, 1, 0], [1, 1, 0], [0, 1], [1, 0], [1, 1, 1, 1]].getD v []

theorem runElement_clcl {v : Nat} (h5 : v ≤ 5) (h : s.has (clclPattern v).length)
    (hbits : s.inp.bits s.bitpos (clclPattern v).length = pattern (clclPattern v)) :
    runElement (.field .clcl) s = codeLengthLength (clclPattern v).length v s := by
  have hrow (i : Instr) (hi : bare (clclPattern v) i ∈ fieldRows .clcl) (h4 : (clclPattern v).length ≤ 4) :
      runElement (.field .clcl) s = elem i s := by
    have hlength : (pattern (clclPattern v)).length = (clclPattern v).length := by simp [pattern]
    refine runElement_row hi (s := s) ?_ ?_ ?_ <;> simp only [bare, hlength, Nat.add_zero]
    · exact h
    · omega
    · exact hbits
  obtain rfl | rfl | rfl | rfl | rfl | rfl : v = 0 ∨ v = 1 ∨ v = 2 ∨ v = 3 ∨ v = 4 ∨ v = 5 := by omega
  · exact hrow .clcl0 (by simp [fieldRows, clclPattern]) (by decide)
  · exact hrow .clcl1 (by simp [fieldRows, clclPattern]) (by decide)
  · exact hrow .clcl2 (by simp [fieldRows, clclPattern]) (by decide)
  · exact hrow .clcl3 (by simp [fieldRows, clclPattern]) (by decide)
  · exact hrow .clcl4 (by simp [fieldRows, clclPattern]) (by decide)
  · exact hrow .clcl5 (by simp [fieldRows, clclPattern]) (by decide)

end

end Sys2Proof.Machine
end

section
/-! SUPPORT. A prefix code is read from the input, the cursor and the workspace alone: whatever the other registers hold, the
read does the same and leaves them (41_prefix_codes.md R104 to R117). -/

namespace Sys2Proof.Machine

/-- `s` with the cursor and the workspace of `u`. -/
def State.withRead (s u : State) : State := { s with bitpos := u.bitpos, work := u.work }

/-- A computation that depends on the input, the cursor and the workspace only, and changes the last two only. -/
def Local (f : State → Res State) : Prop :=
  ∀ s t : State, t.inp = s.inp → t.bitpos = s.bitpos → t.work = s.work → f t = f s >>= fun u => .ok (t.withRead u)

theorem Local.eq_withRead {f : State → Res State} (hf : Local f) {s u : State} (h : f s = .ok u) : u = s.withRead u := by
  simpa [h] using hf s s rfl rfl rfl

/-- The same read from a state that agrees on what is read. -/
theorem Local.transfer {f : State → Res State} (hf : Local f) {s t u : State} (h : f s = .ok u) (hi : t.inp = s.inp)
    (hp : t.bitpos = s.bitpos) (hw : t.work = s.work) : f t = .ok (t.withRead u) := by
  rw [hf s t hi hp hw, h, Res.ok_bind]

namespace Local
variable {f g : State → Res State}

theorem bind (hf : Local f) (hg : Local g) : Local fun s => f s >>= g := by
  intro s t hi hp hw
  simp only [hf s t hi hp hw]
  cases h : f s with
  | error e => rfl
  | ok u => exact hg u (t.withRead u) (hi.trans (congrArg State.inp (hf.eq_withRead h)).symm) rfl rfl

theorem of_work {F : Work → State → Res State} (hF : ∀ w, Local (F w)) : Local fun s => F s.work s := by
  intro s t hi hp hw
  simp only [hw]
  exact hF s.work s t hi hp hw

theorem ite (c : Prop) [Decidable c] (hf : Local f) (hg : Local g) : Local fun s => if c then f s else g s := by
  split <;> assumption

theorem update (g : Work → Work) : Local fun s => .ok { s with work := g s.work } := by
  intro s t hi hp hw
  simp [State.withRead, hp, hw]

theorem ok : Local fun s => .ok s := update id

theorem raise (k : ErrorKind) (m : String) : Local fun s => raise k m s := by
  intro s t hi hp hw
  simp only [Machine.raise, hp]
  rfl

theorem error (e : Stop) : Local fun _ => .error e := fun _ _ _ _ _ => rfl

theorem skip (n : Nat) : Local (skip n) := by
  intro s t hi hp hw
  by_cases h : s.bitpos + n ≤ 8 * s.inp.size
  · simp [Machine.skip, State.inputBits, hi, hp, hw, h, State.withRead, State.advance]
  · simp [Machine.skip, State.inputBits, hi, hp, h, Machine.raise]

theorem readBits (n : Nat) {f : Nat → State → Res State} (hf : ∀ x, Local (f x)) :
    Local fun s => readBits n s >>= fun p => f p.1 p.2 := by
  intro s t hi hp hw
  have h := (Local.skip n).bind (hf (s.inp.field s.bitpos n)) s t hi hp hw
  simpa [Machine.readBits, hi, hp] using h

theorem consume (code : Option PrefixCode) (sym : Nat) : Local (consume code sym) := by
  unfold Machine.consume
  split
  · exact error _
  split
  · exact error _
  · exact skip _

theorem iterate (hf : Local f) (n : Nat) : Local (iterate n f) := by
  induction n with
  | zero => exact ok
  | succ n ih => exact hf.bind ih

theorem iterateWhile (hf : Local f) {c : Work → Bool} (n : Nat) : Local (iterateWhile n (fun s => c s.work) f) := by
  induction n with
  | zero => exact ok
  | succ n ih => exact of_work fun w => ite (c w = true) (hf.bind ih) ok

theorem runElement {c : Ctx} (h : ∀ bits i n, decode c bits = .ok (i, n) → Local (elem i)) : Local (runElement c) := by
  intro s t hi hp hw
  unfold Machine.runElement
  rw [State.window_eq hi hp, hp]
  split
  · exact h _ _ _ ‹_› s t hi hp hw
  all_goals rfl

theorem runField {fd : Field} (h : ∀ r ∈ fieldRows fd, ∀ x, Local (elem (r.instr x))) : Local (Machine.runElement (.field fd)) := by
  refine runElement fun bits i n hd => ?_
  simp only [decode, decodeField] at hd
  split at hd
  · cases hd
  rename_i r hr
  split at hd <;> cases hd
  exact h r (List.mem_of_find?_eq_some hr) _

theorem runSymbol {a : Alphabet} (h : ∀ v, Local (symbolEffect a v)) (T : PrefixCode) : Local (runSymbol a (some T)) := by
  refine runElement fun bits i n hd => ?_
  simp only [decode] at hd
  split at hd
  · cases hd
  rename_i v m hv
  split at hd <;> cases hd
  rename_i hrow
  rw [show elem i = symbolEffect a v from funext (elem_symbolRow hrow)]
  exact h v

end Local

/-! ### The rows of a prefix code -/

theorem startSimple_local : Local startSimple := (Local.skip 2).bind (.update fun w => { w with hskip := 1, syms := [] })

theorem startComplex_local (h : Nat) : Local (startComplex h) :=
  (Local.skip 2).bind (.update fun w => { w with hskip := h, index := h, cl := List.replicate 18 0, num := 0, space := 32 })

theorem simpleSymbol_local : Local simpleSymbol :=
  .of_work fun w => .readBits (bitlength (w.alphabet - 1)) fun x =>
    .of_work fun w => .ite (w.alphabet ≤ x) (.raise _ _) (.update fun w => { w with syms := w.syms ++ [x] })

theorem assignSimple_local (n : Nat) (b : Bool) : Local fun s => .ok (assignSimple n b s) :=
  .update fun w => { w with lens := lengthsOf w.alphabet (w.syms.zip (simpleLengths n b)) }

theorem simpleSymbols_local (n : Nat) : Local (simpleSymbols n) := by
  have hassign : Local fun s => .ok (if n < 4 then assignSimple n false s else s) := by
    by_cases h : n < 4
    · simpa only [h, if_true] using assignSimple_local n false
    · simpa only [h, if_false] using Local.ok
  exact (Local.skip 2).bind <| (Local.update fun w => { w with syms := [] }).bind <| (simpleSymbol_local.iterate n).bind <|
    .of_work fun w => .ite w.syms.Nodup hassign (.raise _ _)

theorem selectTree_local (b : Bool) : Local (selectTree b) := (Local.skip 1).bind (assignSimple_local 4 b)

/-- The workspace after a code-length-code length for symbol `sym` (41_prefix_codes.md R108). -/
def Work.codeLength (w : Work) (sym v : Nat) : Work :=
  let w := { w with cl := w.cl.set sym v, index := w.index + 1 }
  if v = 0 then w else { w with space := w.space - ((32 >>> v : Nat) : Int), num := w.num + 1 }

theorem codeLengthLength_eq (n v : Nat) (s : State) : codeLengthLength n v s = skip n s >>= fun t =>
    match codeLengthOrder[t.work.index]? with
    | none => .error (.fault .noElement)
    | some sym => .ok { t with work := t.work.codeLength sym v } := rfl

theorem codeLengthLength_local (n v : Nat) : Local (codeLengthLength n v) := by
  rw [funext (codeLengthLength_eq n v)]
  refine (Local.skip n).bind fun s t hi hp hw => ?_
  rw [hw]
  split
  · rfl
  · simp [State.withRead, hp]

theorem literalLength_local (c : Nat) : Local (literalLength c) :=
  (Local.of_work fun w => .consume (some w.cl) c).bind (.update fun w => w.literal c)

theorem repeatLength_local (newLen eb : Nat) : Local (repeatLength newLen eb) :=
  .readBits eb fun x => .of_work fun w => .ite (w.alphabet < w.symbol + w.delta newLen eb x) (.raise _ _)
    (.update fun w => w.repeats newLen eb x)

theorem repeatPrevious_local : Local repeatPrevious :=
  (Local.of_work fun w => .consume (some w.cl) 16).bind (.of_work fun w => repeatLength_local w.prevLen 2)

theorem repeatZero_local : Local repeatZero :=
  (Local.of_work fun w => .consume (some w.cl) 17).bind (repeatLength_local 0 3)

theorem codeLength_local (v : Nat) : Local (symbolEffect .codeLength v) :=
  .ite (v < 16) (literalLength_local v) (.ite (v = 16) repeatPrevious_local repeatZero_local)

/-! ### The whole code -/

theorem checkCodeLengths_local : Local checkCodeLengths :=
  .of_work fun w => .ite (w.num = 1 ∨ w.space = 0) (.update fun w => { w with
    lens := List.replicate w.alphabet 0, symbol := 0, prevLen := 8, rep := 0, repLen := 0, space := 32768 }) (.raise _ _)

theorem checkSpace_local : Local checkSpace := .of_work fun w => .ite (w.space = 0) .ok (.raise _ _)

/-- The fields of a prefix code, whatever their rows. -/
theorem prefixField_local {f : Field} (hf : f ∈ [Field.hskip, .nsym, .treeSelect, .clcl]) :
    Local (runElement (.field f)) := by
  refine .runField ?_
  simp only [List.mem_cons, List.not_mem_nil, or_false] at hf
  obtain rfl | rfl | rfl | rfl := hf <;>
    simp only [fieldRows, bare, List.forall_mem_cons, List.not_mem_nil, IsEmpty.forall_iff, implies_true, and_true]
  · exact ⟨fun _ => startComplex_local 0, fun _ => startSimple_local, fun _ => startComplex_local 2,
      fun _ => startComplex_local 3⟩
  · exact ⟨fun _ => simpleSymbols_local 1, fun _ => simpleSymbols_local 2, fun _ => simpleSymbols_local 3,
      fun _ => simpleSymbols_local 4⟩
  · exact ⟨fun _ => selectTree_local false, fun _ => selectTree_local true⟩
  · exact ⟨fun _ => codeLengthLength_local 2 0, fun _ => codeLengthLength_local 2 3, fun _ => codeLengthLength_local 2 4,
      fun _ => codeLengthLength_local 3 2, fun _ => codeLengthLength_local 4 1, fun _ => codeLengthLength_local 4 5⟩

theorem readSimple_local : Local readSimple :=
  (prefixField_local (by simp)).bind <| .of_work fun w =>
    .ite (w.syms.length = 4) (prefixField_local (f := .treeSelect) (by simp)) .ok

theorem readComplex_local : Local readComplex :=
  (Local.of_work fun w => (prefixField_local (f := .clcl) (by simp)).iterateWhile (c := fun w => decide (0 < w.space))
    (18 - w.hskip)).bind <| checkCodeLengths_local.bind <|
  (Local.of_work fun w => Local.iterateWhile (c := fun w => decide (w.symbol < w.alphabet ∧ 0 < w.space))
    (.of_work fun w => .runSymbol codeLength_local w.cl) w.alphabet).bind checkSpace_local

theorem readPrefixCode_local (A : Nat) : Local (readPrefixCode A) :=
  (Local.update fun w => { w with alphabet := A }).bind <| (prefixField_local (f := .hskip) (by simp)).bind <|
    .of_work fun w => .ite (w.hskip = 1) readSimple_local readComplex_local

end Sys2Proof.Machine
end

section
/-! SUPPORT. Canonical prefix codes: the bits of a symbol's codeword decode to the symbol, and a symbol that is decoded has a
codeword of the length read (41_prefix_codes.md R117 to R124). -/

namespace Sys2Proof.Machine

/-! ### The symbols of one length -/

theorem positionsOf_length (l : Nat) (T : List Nat) (i : Nat) : (positionsOf l T i).length = T.count l := by
  induction T generalizing i with
  | nil => rfl
  | cons x xs ih =>
    unfold positionsOf
    by_cases h : x = l <;> simp [h, ih]

theorem positionsOf_getElem? {l v : Nat} {T : List Nat} (h : T[v]? = some l) (i : Nat) :
    (positionsOf l T i)[(T.take v).count l]? = some (i + v) := by
  induction T generalizing v i with
  | nil => simp at h
  | cons x xs ih =>
    cases v with
    | zero =>
      obtain rfl : x = l := by simpa using h
      simp [positionsOf]
    | succ v =>
      have hrest := ih (v := v) (by simpa using h) (i + 1)
      unfold positionsOf
      by_cases hx : x = l
      · simp [hx, hrest]; omega
      · simp [hx, hrest]; omega

theorem mem_positionsOf {l p : Nat} {T : List Nat} {i : Nat} (h : p ∈ positionsOf l T i) : i ≤ p ∧ T[p - i]? = some l := by
  induction T generalizing i with
  | nil => cases h
  | cons x xs ih =>
    have hrest (h : p ∈ positionsOf l xs (i + 1)) : i ≤ p ∧ (x :: xs)[p - i]? = some l := by
      obtain ⟨hle, hget⟩ := ih h
      exact ⟨by omega, by rw [show p - i = p - (i + 1) + 1 by omega]; simpa using hget⟩
    unfold positionsOf at h
    split at h
    · obtain rfl | h := List.mem_cons.mp h
      · simpa using ‹x = l›
      · exact hrest h
    · exact hrest h

theorem symbolAt_length {T : PrefixCode} {l c v : Nat} (h : symbolAt T l c = some v) : T[v]? = some l := by
  unfold symbolAt at h
  split at h
  · simpa using (mem_positionsOf (List.mem_of_getElem? h)).2
  · cases h

/-! ### A symbol that is decoded has a codeword -/

theorem walkCode_length {T : PrefixCode} {fuel l c v n : Nat} {bits : Bits} (h : walkCode T fuel l c bits = .ok (v, n)) :
    n ≠ 0 ∧ T[v]? = some n := by
  induction fuel generalizing l c bits with
  | zero => cases h
  | succ fuel ih =>
    cases bits with
    | nil => cases h
    | cons b bs =>
      unfold walkCode at h
      split at h
      · cases h; exact ⟨Nat.succ_ne_zero l, symbolAt_length ‹_›⟩
      · exact ih h

theorem codeword_of_decodeSymbol {T : PrefixCode} {bits : Bits} {v n : Nat} (h : decodeSymbol T bits = .ok (v, n)) :
    ∃ c, codeword T v = some (n, c) := by
  unfold decodeSymbol at h
  unfold codeword
  split at h
  · cases h
    exact ⟨0, by simp [*]⟩
  · obtain ⟨hn, hv⟩ := walkCode_length h
    simp [*]

/-! ### The codewords of one length -/

theorem firstCode_succ (T : PrefixCode) {l : Nat} (h : 1 ≤ l) :
    firstCode T (l + 1) = (firstCode T l + T.count l) * 2 := by
  obtain ⟨l, rfl⟩ := Nat.exists_eq_add_of_le' h
  rfl

/-- Longer codewords lie behind the shorter ones (41_prefix_codes.md R120). -/
theorem firstCode_ge (T : PrefixCode) {k l : Nat} (hk : 1 ≤ k) (hl : k < l) :
    (firstCode T k + T.count k) * 2 ^ (l - k) ≤ firstCode T l := by
  induction l, hl using Nat.le_induction with
  | base => simp [firstCode_succ T hk]
  | succ l hl ih =>
    rw [firstCode_succ T (by omega), show l + 1 - k = l - k + 1 by omega, Nat.pow_succ, ← Nat.mul_assoc]
    exact Nat.mul_le_mul_right 2 (ih.trans (Nat.le_add_right _ _))

/-- The share of the code space of the lengths up to `l`. -/
def kraftUpTo (l : Nat) (T : PrefixCode) : Nat := (T.map fun x => if x ≤ l then kraftOf x else 0).sum

theorem kraftUpTo_le (l : Nat) (T : PrefixCode) : kraftUpTo l T ≤ kraft T := by
  rw [kraft_eq]
  exact List.sum_le_sum fun x _ => by split <;> simp

theorem kraftUpTo_succ (l : Nat) (T : PrefixCode) :
    kraftUpTo (l + 1) T = kraftUpTo l T + T.count (l + 1) * 2 ^ (15 - (l + 1)) := by
  induction T with
  | nil => simp [kraftUpTo]
  | cons x xs ih =>
    simp only [kraftUpTo, List.map_cons, List.sum_cons] at ih ⊢
    rw [ih, List.count_cons]
    by_cases hx : x = l + 1
    · subst hx
      simp [kraftOf]
      ring
    · have hle : x ≤ l + 1 ↔ x ≤ l := by omega
      simp [hx, hle]
      ring

/-- The codewords of length `l` end where the share of the lengths up to `l` does (41_prefix_codes.md R117, R120). -/
theorem firstCode_kraft (T : PrefixCode) {l : Nat} (h : 1 ≤ l) (h15 : l ≤ 15) :
    (firstCode T l + T.count l) * 2 ^ (15 - l) = kraftUpTo l T := by
  induction l, h using Nat.le_induction with
  | base =>
    have hzero : kraftUpTo 0 T = 0 := by
      refine List.sum_eq_zero fun y hy => ?_
      obtain ⟨x, -, rfl⟩ := List.mem_map.mp hy
      split
      · rw [Nat.le_zero.mp ‹x ≤ 0›]; rfl
      · rfl
    rw [kraftUpTo_succ, hzero]
    simp [firstCode]
  | succ l hl ih =>
    have hpow : 2 ^ (15 - l) = 2 * 2 ^ (15 - (l + 1)) := by
      rw [← Nat.pow_succ', show (15 - (l + 1)).succ = 15 - l by omega]
    rw [kraftUpTo_succ, ← ih (by omega), firstCode_succ T hl, hpow]
    ring

/-- The codewords of length `l` are numbers of `l` bits, unless the code space is overfull. -/
theorem firstCode_add_count_le {T : PrefixCode} (hT : kraft T ≤ 32768) {l : Nat} (h : 1 ≤ l) (h15 : l ≤ 15) :
    firstCode T l + T.count l ≤ 2 ^ l := by
  have hshare := (firstCode_kraft T h h15).le.trans ((kraftUpTo_le l T).trans hT)
  have hpow : 2 ^ l * 2 ^ (15 - l) = 32768 := by
    rw [← Nat.pow_add, show l + (15 - l) = 15 by omega]
  exact Nat.le_of_mul_le_mul_right (hpow ▸ hshare) (Nat.two_pow_pos _)

/-! ### A codeword decodes to its symbol -/

theorem symbolAt_eq_none {T : PrefixCode} {l c : Nat} (h : firstCode T l + T.count l ≤ c) : symbolAt T l c = none := by
  rw [symbolAt, if_pos (by omega), List.getElem?_eq_none]
  rw [positionsOf_length]
  omega

theorem symbolAt_codeword {T : PrefixCode} {l v : Nat} (h : T[v]? = some l) :
    symbolAt T l (firstCode T l + (T.take v).count l) = some v := by
  rw [symbolAt, if_pos (Nat.le_add_right _ _), Nat.add_sub_cancel_left, positionsOf_getElem? h, Nat.zero_add]

theorem bitsOf_succ (n v : Nat) : bitsOf (n + 1) v = bitsOf n v ++ [v / 2 ^ n % 2 == 1] := by
  induction n generalizing v with
  | zero => simp [bitsOf]
  | succ n ih =>
    rw [bitsOf, ih, bitsOf, List.cons_append, Nat.div_div_eq_div_mul, ← Nat.pow_succ']

/-- The walk over the last `d` bits of a codeword of length `l`, no shorter part of which is a codeword. -/
theorem walkCode_codeword {T : PrefixCode} {v l c : Nat} (hv : symbolAt T l c = some v)
    (hshort : ∀ d, 1 ≤ d → d < l → symbolAt T (l - d) (c / 2 ^ d) = none) (rest : Bits) {d fuel : Nat} (h1 : 1 ≤ d) (hd : d ≤ l)
    (hfuel : d ≤ fuel) : walkCode T fuel (l - d) (c / 2 ^ d) ((bitsOf d c).reverse ++ rest) = .ok (v, l) := by
  induction d, h1 using Nat.le_induction generalizing fuel with
  | base =>
    obtain ⟨fuel, rfl⟩ := Nat.exists_eq_add_of_le' hfuel
    have hbit : 2 * (c / 2) + (c % 2 == 1).toNat = c := by
      rcases Nat.mod_two_eq_zero_or_one c with h | h <;> simp [h] <;> omega
    simp [bitsOf, walkCode, hbit, show l - 1 + 1 = l by omega, hv]
  | succ d h1 ih =>
    obtain ⟨fuel, rfl⟩ := Nat.exists_eq_add_of_le' (show 1 ≤ fuel by omega)
    have hbit : 2 * (c / 2 ^ (d + 1)) + (c / 2 ^ d % 2 == 1).toNat = c / 2 ^ d := by
      rw [Nat.pow_succ, ← Nat.div_div_eq_div_mul]
      rcases Nat.mod_two_eq_zero_or_one (c / 2 ^ d) with h | h <;> simp [h] <;> omega
    rw [bitsOf_succ, List.reverse_append, List.reverse_singleton, List.singleton_append, List.cons_append, walkCode, hbit,
      show l - (d + 1) + 1 = l - d by omega, hshort d h1 (by omega)]
    exact ih (by omega) (by omega)

/-- The bits of a codeword decode to its symbol, whatever follows them (41_prefix_codes.md R123, R124). -/
theorem decodeSymbol_codeword {T : PrefixCode} {v l c : Nat} (h : codeword T v = some (l, c)) (h15 : l ≤ 15)
    (hT : kraft T ≤ 32768) (rest : Bits) : decodeSymbol T ((bitsOf l c).reverse ++ rest) = .ok (v, l) := by
  unfold codeword at h
  unfold decodeSymbol
  split at h
  · split at h <;> cases h
    simp [*]
  split at h
  · cases h
  rename_i l' hv
  split at h <;> cases h
  have h1 : 1 ≤ l := Nat.one_le_iff_ne_zero.mpr ‹_›
  have hshort (d : Nat) (hd : 1 ≤ d) (hl : d < l) :
      symbolAt T (l - d) ((firstCode T l + (T.take v).count l) / 2 ^ d) = none := by
    refine symbolAt_eq_none ((Nat.le_div_iff_mul_le (Nat.two_pow_pos d)).mpr ?_)
    have := firstCode_ge T (show 1 ≤ l - d by omega) (show l - d < l by omega)
    rw [show l - (l - d) = d by omega] at this
    omega
  have hwalk := walkCode_codeword (symbolAt_codeword hv) hshort rest h1 le_rfl h15
  have hrank : (T.take v).count l < T.count l := by
    have := (List.getElem?_eq_some_iff.mp (positionsOf_getElem? hv 0)).1
    rwa [positionsOf_length] at this
  have hc : firstCode T l + (T.take v).count l < 2 ^ l := by
    have := firstCode_add_count_le hT h1 h15
    omega
  rwa [Nat.sub_self, Nat.div_eq_of_lt hc] at hwalk

end Sys2Proof.Machine
end

section
/-! SUPPORT. The parts of SETUP, each from the bits or the reads it is made of: the block headers, the distance parameters, the
context modes and the tree groups (42_metablock.md R141 to R154). -/

namespace Sys2Proof.Machine

/-- A symbol that is decoded has the effect of its value. -/
theorem runSymbol_decoded {a : Alphabet} {T : PrefixCode} {s : State} {v n : Nat} (h : decodeSymbol T s.window = .ok (v, n))
    (hrow : (symbolRow a v).isSome = true) : runSymbol a (some T) s = symbolEffect a v s := by
  obtain ⟨i, hi⟩ := Option.isSome_iff_exists.mp hrow
  rw [← elem_symbolRow hi]
  exact runElement_eq (n := n) (by simp [decode, h, hi])

/-! ### Block headers -/

theorem Local.setTracker {f : State → Res State} (hf : Local f) {s u : State} (h : f s = .ok u) (c : Category) (k : Tracker) :
    f (s.setTracker c k) = .ok (u.setTracker c k) := by
  rw [hf.transfer h (by simp) (by simp) (by simp), hf.eq_withRead h]
  cases c <;> rfl

/-- A block count is its base and its extra bits (42_metablock.md R144). -/
theorem readBlockCount_eq {c : Category} {s : State} {j l : Nat} (hvalid : validCode 26 (s.tracker c).htreeBlen = true)
    (h : decodeSymbol (s.tracker c).htreeBlen s.window = .ok (j, l)) (hbits : s.has (l + blockCountExtra.getD j 0)) :
    readBlockCount c s = .ok ((s.advance (l + blockCountExtra.getD j 0)).setTracker c { s.tracker c with
      blen := blockCountBase.getD j 0 + s.inp.field (s.bitpos + l) (blockCountExtra.getD j 0) }) := by
  have hj : j < 26 := (validCode_iff.mp hvalid).1 ▸ decodeSymbol_lt h
  obtain ⟨v, hv⟩ := codeword_of_decodeSymbol h
  rw [readBlockCount, runSymbol_decoded h (by simpa [symbolRow, blockCountRows] using hj)]
  have hconsume : consume (some (s.tracker c).htreeBlen) j s = .ok (s.advance l) := consume_eq hv (by omega)
  have hextra : readBits (blockCountExtra.getD j 0) (s.advance l) = .ok _ :=
    readBits_eq (by simp only [State.advance_bitpos, State.advance_inputBits]; omega)
  simp only [symbolEffect, renewCount, hconsume, hextra, Res.ok_bind, Res.pure_eq, State.advance_advance, State.advance_tracker,
    State.advance_inp, State.advance_bitpos]

/-- The header of a category with one block type (42_metablock.md R141). -/
theorem blockHeader_one {c : Category} {s a : State} (h : runElement (.field .varlen) s = .ok a) (hn : a.work.count + 1 = 1) :
    blockHeader c s = .ok (a.setTracker c .single) := by
  rw [blockHeader_eq, h, Res.ok_bind, hn]
  rfl

/-- The header of a category with several block types (42_metablock.md R142 to R144). -/
theorem blockHeader_several {c : Category} {s a b d : State} {j l : Nat} (h : runElement (.field .varlen) s = .ok a)
    (hn : 2 ≤ a.work.count + 1) (halloc : .blockTypeTrees ∉ s.params.allocFail)
    (htypes : readPrefixCode (a.work.count + 1 + 2) a = .ok b) (hcounts : readPrefixCode 26 b = .ok d)
    (hj : decodeSymbol d.work.lens d.window = .ok (j, l)) (hbits : d.has (l + blockCountExtra.getD j 0)) :
    blockHeader c s = .ok ((d.advance (l + blockCountExtra.getD j 0)).setTracker c {
      nbltypes := a.work.count + 1
      btype := 0
      blen := blockCountBase.getD j 0 + d.inp.field (d.bitpos + l) (blockCountExtra.getD j 0)
      prevType := 1
      htreeBtype := b.work.lens
      htreeBlen := d.work.lens }) := by
  have hparams : a.params = s.params := ((runElement_runs _ s).frame a h).params
  have halloc' : allocate .blockTypeTrees .allocBlockTypeTrees (a.setTracker c (.fresh (a.work.count + 1))) = .ok _ :=
    allocate_eq _ (by simpa [hparams] using halloc)
  have hvalid : validCode 26 d.work.lens = true := readPrefixCode_valid 26 b d hcounts
  have hwindow (k : Tracker) : (d.setTracker c k).window = d.window := State.window_eq (by simp) (by simp)
  rw [blockHeader_eq, h, Res.ok_bind, if_pos hn, blockCodes, halloc', Res.ok_bind,
    (readPrefixCode_local _).setTracker htypes, Res.ok_bind]
  simp only [State.tracker_setTracker, State.setTracker_setTracker, State.setTracker_work]
  rw [(readPrefixCode_local _).setTracker hcounts, Res.ok_bind]
  simp only [State.tracker_setTracker, State.setTracker_setTracker, State.setTracker_work]
  rw [readBlockCount_eq (j := j) (l := l)]
  · simp only [State.tracker_setTracker, State.advance_setTracker, State.setTracker_setTracker, State.setTracker_inp,
      State.setTracker_bitpos]
    rfl
  · simpa using hvalid
  · simpa [hwindow] using hj
  · simpa [State.has, State.inputBits] using hbits

/-! ### Distance parameters and context modes -/

theorem distanceParameters_eq {s : State} (h : s.has 6) : distanceParameters s = .ok { s with
    bitpos := s.bitpos + 6
    npostfix := s.inp.field s.bitpos 2
    ndirect := s.inp.field (s.bitpos + 2) 4 * 2 ^ s.inp.field s.bitpos 2 } := by
  have h2 : s.has 2 := by simp only [State.has] at h ⊢; omega
  have hpostfix : setPostfix (s.peek 2) s = .ok { s.advance 2 with npostfix := s.peek 2 } := by
    rw [setPostfix, skip_eq h2]
    rfl
  have h4 : State.has { s.advance 2 with npostfix := s.peek 2 } 4 := by
    simp only [State.has, State.inputBits, State.advance_bitpos, State.advance_inp] at h ⊢
    omega
  rw [distanceParameters, runElement_npostfix h2, hpostfix, Res.ok_bind, runElement_ndirect h4, setDirect, skip_eq h4]
  simp [State.advance, State.peek, Nat.shiftLeft_eq]

/-- The context mode of a field value (42_metablock.md R146). -/
def modeOf (v : Nat) : CtxMode := [CtxMode.lsb6, .msb6, .utf8, .signed].getD v .lsb6

theorem iterate_cmode (n : Nat) {s : State} (h : s.has (2 * n)) : iterate n (runElement (.field .cmode)) s = .ok { s with
    bitpos := s.bitpos + 2 * n
    cmode := s.cmode ++ (List.range n).map fun t => modeOf (s.inp.field (s.bitpos + 2 * t) 2) } := by
  induction n generalizing s with
  | zero => simp [iterate]
  | succ n ih =>
    have h2 : s.has 2 := by simp only [State.has] at h ⊢; omega
    have hpush : runElement (.field .cmode) s = .ok { s.advance 2 with cmode := s.cmode ++ [modeOf (s.peek 2)] } := by
      rw [runElement_cmode h2, pushMode, skip_eq h2]
      rfl
    have hrest : State.has { s.advance 2 with cmode := s.cmode ++ [modeOf (s.peek 2)] } (2 * n) := by
      simp only [State.has, State.inputBits, State.advance_bitpos, State.advance_inp] at h ⊢
      omega
    rw [iterate, hpush, Res.ok_bind, ih hrest, List.range_succ_eq_map]
    simp [State.advance, Function.comp_def, Nat.mul_add, Nat.add_assoc, Nat.add_comm 2]

theorem contextModes_eq {s : State} (halloc : AllocSite.contextModes ∉ s.params.allocFail)
    (h : s.has (2 * s.trackerL.nbltypes)) : contextModes s = .ok { s with
      bitpos := s.bitpos + 2 * s.trackerL.nbltypes
      cmode := (List.range s.trackerL.nbltypes).map fun t => modeOf (s.inp.field (s.bitpos + 2 * t) 2) } := by
  rw [contextModes, allocate_eq _ halloc, Res.ok_bind, iterate_cmode]
  · simp
  · exact h

/-! ### Tree groups -/

/-- The trees of one group: `tree` reads a code over `A` symbols, and `add` puts codes at the end of the group. -/
structure Group (A : Nat) (tree : State → Res State) (add : State → List PrefixCode → State) (s : State) : Prop where
  tree_eq : ∀ u l, tree (add (s.withRead u) l) = readPrefixCode A (add (s.withRead u) l) >>= fun v => .ok (add v [v.work.lens])
  keeps : ∀ t l, (add t l).inp = t.inp ∧ (add t l).bitpos = t.bitpos ∧ (add t l).work = t.work
  withRead : ∀ t l u, (add t l).withRead u = add (t.withRead u) l
  append : ∀ t l l', add (add t l) l' = add t (l ++ l')

/-- The trees of a group are the codes read one after the other, whatever the group holds before (42_metablock.md R154). -/
theorem Group.iterate {A : Nat} {tree : State → Res State} {add : State → List PrefixCode → State} {s : State}
    (hg : Group A tree add s) {x : Nat → State} {i n : Nat} (hinp : ∀ j, j ≤ n → (x (i + j)).inp = s.inp)
    (hx : ∀ j, j < n → readPrefixCode A (x (i + j)) = .ok (x (i + j + 1))) (l : List PrefixCode) :
    iterate n tree (add (s.withRead (x i)) l) =
      .ok (add (s.withRead (x (i + n))) (l ++ (List.range n).map fun j => (x (i + j + 1)).work.lens)) := by
  induction n generalizing i l with
  | zero => simp [Machine.iterate]
  | succ n ih =>
    obtain ⟨hi, hp, hw⟩ := hg.keeps (s.withRead (x i)) l
    have hread : readPrefixCode A (add (s.withRead (x i)) l) = .ok (add (s.withRead (x (i + 1))) l) := by
      rw [(readPrefixCode_local A).transfer (hx 0 (by omega)) (hi.trans (hinp 0 (by omega)).symm) hp hw, hg.withRead]
      rfl
    rw [Machine.iterate, hg.tree_eq, hread, Res.ok_bind, Res.ok_bind, hg.append, (hg.keeps ..).2.2,
      ih (i := i + 1) (fun j hj => by rw [← hinp (j + 1) (by omega)]; congr 2; omega)
        (fun j hj => by rw [show i + 1 + j = i + (j + 1) by omega]; exact hx (j + 1) (by omega)), List.range_succ_eq_map]
    simp [Function.comp_def, State.withRead, Nat.add_assoc, Nat.add_comm 1]

theorem literalGroup (s : State) : Group 256 literalTree (fun t l => { t with htreeL := t.htreeL ++ l }) s :=
  ⟨fun _ _ => rfl, fun _ _ => ⟨rfl, rfl, rfl⟩, fun _ _ _ => rfl, fun _ _ _ => by simp⟩

theorem commandGroup (s : State) : Group 704 commandTree (fun t l => { t with htreeI := t.htreeI ++ l }) s :=
  ⟨fun _ _ => rfl, fun _ _ => ⟨rfl, rfl, rfl⟩, fun _ _ _ => rfl, fun _ _ _ => by simp⟩

theorem distanceGroup (s : State) :
    Group s.distanceAlphabet distanceTree (fun t l => { t with htreeD := t.htreeD ++ l }) s :=
  ⟨fun _ _ => rfl, fun _ _ => ⟨rfl, rfl, rfl⟩, fun _ _ _ => rfl, fun _ _ _ => by simp⟩

/-- The tree groups are the codes read for every index in order (42_metablock.md R154). -/
theorem treeGroups_eq {s : State} {x : Nat → State} (halloc : AllocSite.treeGroups ∉ s.params.allocFail) (h0 : x 0 = s)
    (hx : ∀ j, j < s.ntreesL + s.trackerI.nbltypes + s.ntreesD →
      readPrefixCode (if j < s.ntreesL then 256 else if j < s.ntreesL + s.trackerI.nbltypes then 704
        else s.distanceAlphabet) (x j) = .ok (x (j + 1))) :
    treeGroups s = .ok { s with
      bitpos := (x (s.ntreesL + s.trackerI.nbltypes + s.ntreesD)).bitpos
      work := (x (s.ntreesL + s.trackerI.nbltypes + s.ntreesD)).work
      htreeL := (List.range s.ntreesL).map fun t => (x (t + 1)).work.lens
      htreeI := (List.range s.trackerI.nbltypes).map fun t => (x (s.ntreesL + t + 1)).work.lens
      htreeD := (List.range s.ntreesD).map fun t =>
        (x (s.ntreesL + s.trackerI.nbltypes + t + 1)).work.lens } := by
  have hinp (j : Nat) (hj : j ≤ s.ntreesL + s.trackerI.nbltypes + s.ntreesD) : (x j).inp = s.inp := by
    induction j with
    | zero => rw [h0]
    | succ j ih => exact ((readPrefixCode_runs _ _).frame _ (hx j (by omega))).inp.trans (ih (by omega))
  let s₀ : State := { s with htreeL := [], htreeI := [], htreeD := [] }
  let s₁ : State := { s₀ with htreeL := (List.range s.ntreesL).map fun t => (x (t + 1)).work.lens }
  let s₂ : State := { s₁ with htreeI := (List.range s.trackerI.nbltypes).map fun t => (x (s.ntreesL + t + 1)).work.lens }
  have hliteral := (literalGroup s₀).iterate (x := x) (i := 0) (n := s.ntreesL) (fun j hj => hinp _ (by omega))
    (fun j hj => by simpa [hj] using hx j (by omega)) []
  have hcommand := (commandGroup s₁).iterate (x := x) (i := s.ntreesL) (n := s.trackerI.nbltypes)
    (fun j hj => hinp _ (by omega)) (fun j hj => by simpa [hj] using hx (s.ntreesL + j) (by omega)) []
  have hdistance := (distanceGroup s₂).iterate (x := x) (i := s.ntreesL + s.trackerI.nbltypes) (n := s.ntreesD)
    (fun j hj => hinp _ (by omega))
    (fun j hj => by
      have h := hx (s.ntreesL + s.trackerI.nbltypes + j) (by omega)
      rw [if_neg (by omega), if_neg (by omega)] at h
      exact h) []
  simp only [State.withRead, h0, List.nil_append, Nat.zero_add, s₀, s₁, s₂] at hliteral hcommand hdistance
  rw [treeGroups, allocate_eq _ halloc, Res.ok_bind, hliteral, Res.ok_bind, hcommand, Res.ok_bind, hdistance]

end Sys2Proof.Machine
end

section
/-! SUPPORT. The smallest header of a compressed meta-block, every count 1 and every prefix code a simple code of one symbol
(42_metablock.md R141 to R156; 41_prefix_codes.md R105 to R107). -/

namespace Sys2Proof.Machine

/-- The parts of a field of value 0 have value 0. -/
theorem Memory.field_eq_zero {m : Memory} {p n : Nat} (h : m.field p n = 0) {a b : Nat} (hab : a + b ≤ n) :
    m.field (p + a) b = 0 := by
  obtain ⟨c, rfl⟩ := Nat.exists_eq_add_of_le hab
  rw [m.field_add, m.field_add] at h
  simpa using (Nat.eq_zero_of_add_eq_zero (Nat.eq_zero_of_add_eq_zero h).1).2

theorem singleton_eq (A v : Nat) : lengthsOf A ([v].zip (simpleLengths 1 false)) = singleton A v := by
  refine List.ext_getElem (by simp [singleton]) fun i hi hi' => ?_
  simp [lengthsOf, simpleLengths, singleton, List.getElem_set, eq_comm]

section
variable {s : State}

theorem State.has_of_le {m n : Nat} (h : s.has n) (hmn : m ≤ n) : s.has m := by
  simp only [State.has] at h ⊢
  omega

theorem simpleSymbol_eq {W : Nat} (hW : bitlength (s.work.alphabet - 1) = W) (h : s.has W)
    (hv : s.peek W < s.work.alphabet) : simpleSymbol s = .ok { s with
      bitpos := s.bitpos + W, work := { s.work with syms := s.work.syms ++ [s.peek W] } } := by
  rw [simpleSymbol, hW, readBits_eq h, Res.ok_bind]
  exact if_neg (Nat.not_le.mpr hv)

theorem simpleSymbols_one {W : Nat} (hW : bitlength (s.work.alphabet - 1) = W) (h : s.has (2 + W))
    (hv : s.inp.field (s.bitpos + 2) W < s.work.alphabet) : simpleSymbols 1 s = .ok { s with
      bitpos := s.bitpos + 2 + W
      work := { s.work with
        syms := [s.inp.field (s.bitpos + 2) W]
        lens := singleton s.work.alphabet (s.inp.field (s.bitpos + 2) W) } } := by
  let t : State := { s.advance 2 with work := { s.work with syms := [] } }
  have ht : t.has W := by
    simp only [State.has, State.inputBits, t, State.advance_bitpos, State.advance_inp] at h ⊢
    omega
  rw [simpleSymbols, skip_eq (h.trans' (by omega)), Res.ok_bind]
  simp only [iterate]
  rw [show simpleSymbol { s.advance 2 with work := { (s.advance 2).work with syms := [] } } = _ from
    simpleSymbol_eq (s := t) hW ht hv]
  simp only [Res.ok_bind, Res.pure_eq, t, assignSimple, List.nil_append, singleton_eq]
  simp [State.advance]

/-- A simple code of one symbol (41_prefix_codes.md R105 to R107). -/
theorem readPrefixCode_one {A W : Nat} (hW : bitlength (A - 1) = W) (h : s.has (4 + W)) (h4 : s.peek 4 = 1)
    (hA : s.inp.field (s.bitpos + 4) W < A) : ∃ w, readPrefixCode A s = .ok { s with bitpos := s.bitpos + 4 + W, work := w } ∧
      w.lens = singleton A (s.inp.field (s.bitpos + 4) W) := by
  obtain ⟨hhskip, hnsym⟩ : s.inp.field s.bitpos 2 = 1 ∧ s.inp.field (s.bitpos + 2) 2 = 0 := by
    have hsplit : s.inp.field s.bitpos 4 = _ := s.inp.field_add s.bitpos 2 2
    have := s.inp.field_lt s.bitpos 2
    simp only [State.peek] at h4
    omega
  let s₀ : State := { s with work := { s.work with alphabet := A } }
  let s₁ : State := { s₀ with bitpos := s.bitpos + 2, work := { s₀.work with hskip := 1, syms := [] } }
  have h₀ : s₀.has 2 := by
    simp only [State.has, State.inputBits, s₀] at h ⊢
    omega
  have h₁ : s₁.has (2 + W) := by
    simp only [State.has, State.inputBits, s₀, s₁] at h ⊢
    omega
  have hskip : runElement (.field .hskip) s₀ = .ok s₁ := by
    rw [runElement_hskip_simple h₀ hhskip, startSimple, skip_eq h₀]
    rfl
  have hsyms := simpleSymbols_one (s := s₁) hW h₁ hA
  have hnsym' : runElement (.field .nsym) s₁ = _ := (runElement_nsym_one (State.has_of_le h₁ (by omega)) hnsym).trans hsyms
  let v := s.inp.field (s.bitpos + 4) W
  refine ⟨{ s₁.work with syms := [v], lens := singleton A v }, ?_, rfl⟩
  rw [readPrefixCode, show runElement (.field .hskip) { s with work := { s.work with alphabet := A } } = _ from hskip,
    Res.ok_bind, if_pos rfl, readSimple, hnsym', Res.ok_bind, if_neg (by simp)]

/-- A count of 1 (30_encoding.md R75). -/
theorem varlen_zero (h : s.has 1) (hv : s.peek 1 = 0) :
    runElement (.field .varlen) s = .ok { s with bitpos := s.bitpos + 1, work := { s.work with count := 0 } } := by
  rw [runElement_varlen_zero h hv, setCount, skip_eq h]
  rfl

theorem blockHeader_zero (c : Category) (h : s.has 1) (hv : s.peek 1 = 0) :
    blockHeader c s = .ok (({ s with bitpos := s.bitpos + 1, work := { s.work with count := 0 } } : State).setTracker c .single) :=
  blockHeader_one (varlen_zero h hv) rfl

theorem contextMap_zero (halloc : AllocSite.contextMap ∉ s.params.allocFail) (size : Nat) (h : s.has 1) (hv : s.peek 1 = 0) :
    contextMap size s = .ok { s with
      bitpos := s.bitpos + 1, work := { s.work with count := 0, map := List.replicate size 0 } } := by
  rw [contextMap, varlen_zero h hv, Res.ok_bind, allocate_eq _ (by exact halloc)]
  rfl

/-- Three groups of one code each. -/
theorem treeGroups_one (halloc : AllocSite.treeGroups ∉ s.params.allocFail) (hnL : s.ntreesL = 1)
    (hnI : s.trackerI.nbltypes = 1) (hnD : s.ntreesD = 1) (hD : s.distanceAlphabet = 64) (h : s.has 36)
    (hl : s.inp.field s.bitpos 4 = 1) (hi : s.inp.field (s.bitpos + 12) 4 = 1) (hd : s.inp.field (s.bitpos + 26) 4 = 1)
    (hcmd : s.inp.field (s.bitpos + 16) 10 < 704) : ∃ w, treeGroups s = .ok { s with
      bitpos := s.bitpos + 36
      htreeL := [singleton 256 (s.inp.field (s.bitpos + 4) 8)]
      htreeI := [singleton 704 (s.inp.field (s.bitpos + 16) 10)]
      htreeD := [singleton 64 (s.inp.field (s.bitpos + 30) 6)]
      work := w } := by
  have hhas (t : State) (n : Nat) (hinp : t.inp = s.inp) (hp : t.bitpos + n ≤ s.bitpos + 36) : t.has n := by
    simp only [State.has, State.inputBits, hinp] at h ⊢
    omega
  obtain ⟨w, hread, hw⟩ := readPrefixCode_one (s := s) (A := 256) (W := 8) rfl (hhas _ _ rfl (by omega)) hl
    (s.inp.field_lt _ 8)
  obtain ⟨w', hread', hw'⟩ := readPrefixCode_one (s := { s with bitpos := s.bitpos + 12, work := w }) (A := 704) (W := 10) rfl
    (hhas _ _ rfl (by dsimp only; omega)) hi hcmd
  obtain ⟨w'', hread'', hw''⟩ := readPrefixCode_one (s := { s with bitpos := s.bitpos + 26, work := w' }) (A := 64) (W := 6)
    rfl (hhas _ _ rfl (by dsimp only; omega)) hd (s.inp.field_lt _ 6)
  let x : Nat → State := fun j => [s, { s with bitpos := s.bitpos + 12, work := w }, { s with bitpos := s.bitpos + 26, work := w' },
    { s with bitpos := s.bitpos + 36, work := w'' }].getD j s
  refine ⟨w'', (treeGroups_eq (x := x) halloc rfl fun j hj => ?_).trans ?_⟩
  · rw [hnL, hnI, hnD] at hj
    rw [hnL, hnI, hD]
    obtain rfl | rfl | rfl : j = 0 ∨ j = 1 ∨ j = 2 := by omega
    · exact hread
    · exact hread'
    · exact hread''
  · simp [hnL, hnI, hnD, x, hw, hw', hw'']

/-- SETUP on the smallest header. -/
theorem opSetup_smallest (halloc : s.params.allocFail = []) (h : s.has 49) (h0 : s.inp.field s.bitpos 13 = 0)
    (hl : s.inp.field (s.bitpos + 13) 4 = 1) (hi : s.inp.field (s.bitpos + 25) 4 = 1)
    (hd : s.inp.field (s.bitpos + 39) 4 = 1) (hcmd : s.inp.field (s.bitpos + 29) 10 < 704) : opSetup s = .ok { s with
      bitpos := s.bitpos + 49
      trackerL := .single
      trackerI := .single
      trackerD := .single
      npostfix := 0
      ndirect := 0
      cmode := [.lsb6]
      ntreesL := 1
      cmapL := List.replicate 64 0
      ntreesD := 1
      cmapD := List.replicate 4 0
      htreeL := [singleton 256 (s.inp.field (s.bitpos + 17) 8)]
      htreeI := [singleton 704 (s.inp.field (s.bitpos + 29) 10)]
      htreeD := [singleton 64 (s.inp.field (s.bitpos + 43) 6)]
      cmdPhase := .cmdBegin
      state := .commandLoop
      work := .idle } := by
  have hhas (t : State) (n : Nat) (hinp : t.inp = s.inp) (hp : t.bitpos + n ≤ s.bitpos + 49) : t.has n := by
    simp only [State.has, State.inputBits, hinp] at h ⊢
    omega
  have hzero (a n : Nat) (ha : a + n ≤ 13) : s.inp.field (s.bitpos + a) n = 0 := Memory.field_eq_zero h0 ha
  have hfree (site : AllocSite) : site ∉ s.params.allocFail := by simp [halloc]
  let s₁ : State := { s with bitpos := s.bitpos + 1, trackerL := .single, work := { s.work with count := 0 } }
  let s₂ : State := { s₁ with bitpos := s.bitpos + 2, trackerI := .single }
  let s₃ : State := { s₂ with bitpos := s.bitpos + 3, trackerD := .single }
  let s₄ : State := { s₃ with bitpos := s.bitpos + 9, npostfix := 0, ndirect := 0 }
  let s₅ : State := { s₄ with bitpos := s.bitpos + 11, cmode := [.lsb6] }
  let s₆ : State := { s₅ with
    bitpos := s.bitpos + 12, ntreesL := 1, cmapL := List.replicate 64 0
    work := { s₅.work with map := List.replicate 64 0 } }
  let s₇ : State := { s₆ with
    bitpos := s.bitpos + 13, ntreesD := 1, cmapD := List.replicate 4 0
    work := { s₆.work with map := List.replicate 4 0 } }
  have h₁ : blockHeader .L s = .ok s₁ := blockHeader_zero .L (hhas _ _ rfl (by omega)) (hzero 0 1 (by omega))
  have h₂ : blockHeader .I s₁ = .ok s₂ :=
    blockHeader_zero (s := s₁) .I (hhas _ _ rfl (by simp only [s₁]; omega)) (hzero 1 1 (by omega))
  have h₃ : blockHeader .D s₂ = .ok s₃ :=
    blockHeader_zero (s := s₂) .D (hhas _ _ rfl (by simp only [s₂]; omega)) (hzero 2 1 (by omega))
  have h₄ : distanceParameters s₃ = .ok s₄ := by
    have hpostfix : s₃.inp.field s₃.bitpos 2 = 0 := hzero 3 2 (by omega)
    have hdirect : s₃.inp.field (s₃.bitpos + 2) 4 = 0 := hzero 5 4 (by omega)
    rw [distanceParameters_eq (s := s₃) (hhas _ _ rfl (by simp only [s₃]; omega)), hpostfix, hdirect]
    rfl
  have h₅ : contextModes s₄ = .ok s₅ := by
    rw [contextModes_eq (s := s₄) (hfree _) (hhas _ _ rfl (by simp only [s₄, s₃, s₂, s₁, Tracker.single]; omega))]
    simp [s₅, s₄, s₃, s₂, s₁, Tracker.single, hzero 9 2 (by omega), modeOf]
  have h₆ : literalMap s₅ = .ok s₆ := by
    rw [literalMap, contextMap_zero (s := s₅) (hfree _) _ (hhas _ _ rfl (by simp only [s₅]; omega)) (hzero 11 1 (by omega))]
    rfl
  have h₇ : distanceMap s₆ = .ok s₇ := by
    rw [distanceMap, contextMap_zero (s := s₆) (hfree _) _ (hhas _ _ rfl (by simp only [s₆]; omega)) (hzero 12 1 (by omega))]
    rfl
  obtain ⟨w, h₈⟩ := treeGroups_one (s := s₇) (hfree _) rfl rfl rfl rfl (hhas _ _ rfl (by simp only [s₇]; omega)) hl
    (by simpa [s₇, Nat.add_assoc] using hi) (by simpa [s₇, Nat.add_assoc] using hd) (by simpa [s₇, Nat.add_assoc] using hcmd)
  simp only [opSetup, h₁, h₂, h₃, h₄, h₅, h₆, h₇, h₈, Res.ok_bind]
  simp [s₇, s₆, s₅, s₄, s₃, s₂, s₁, State.goto, State.rest, Nat.add_assoc]

/-- SETUP is its parts in order (42_metablock.md R155, R156). -/
theorem opSetup_parts {a b c d e f g t : State} (ha : blockHeader .L s = .ok a) (hb : blockHeader .I a = .ok b)
    (hc : blockHeader .D b = .ok c) (hd : distanceParameters c = .ok d) (he : contextModes d = .ok e)
    (hf : contextMap (64 * e.trackerL.nbltypes) e = .ok f)
    (hg : contextMap (4 * f.trackerD.nbltypes) { f with ntreesL := f.work.count + 1, cmapL := f.work.map } = .ok g)
    (ht : treeGroups { g with ntreesD := g.work.count + 1, cmapD := g.work.map } = .ok t) :
    opSetup s = .ok { t with cmdPhase := .cmdBegin, state := .commandLoop, work := .idle } := by
  have hliteral : literalMap e = .ok { f with ntreesL := f.work.count + 1, cmapL := f.work.map } := by
    rw [literalMap, hf]
    rfl
  have hdistance : distanceMap { f with ntreesL := f.work.count + 1, cmapL := f.work.map } =
      .ok { g with ntreesD := g.work.count + 1, cmapD := g.work.map } := by
    rw [distanceMap, hg]
    rfl
  rw [opSetup, ha, Res.ok_bind, hb, Res.ok_bind, hc, Res.ok_bind, hd, Res.ok_bind, he, Res.ok_bind, hliteral, Res.ok_bind,
    hdistance, Res.ok_bind, ht]
  rfl

theorem exec_setup {t : State} (hs : s.state = .compressedSetup) (h : opSetup s = .ok t) : exec .setup s = .next t := by
  show during [.compressedSetup] s (opSetup s) = .next t
  rw [during_of_mem (by simp [hs]), h]
  rfl

end

end Sys2Proof.Machine
end

section
/-! SUPPORT. Reading a complex prefix code from the bits that spell it (41_prefix_codes.md R108 to R117): the code-length code
from its lengths in the order of R108, then the lengths that the code-length symbols write. -/

namespace Sys2Proof.Machine

/-! ### Bits at the cursor -/

/-- The bits stand at the cursor. -/
def State.stands (s : State) (bits : Bits) : Prop := s.has bits.length ∧ s.inp.bits s.bitpos bits.length = bits

theorem State.stands_append {s t : State} {b b' : Bits} (h : s.stands (b ++ b')) (hi : t.inp = s.inp)
    (hp : t.bitpos = s.bitpos + b.length) : s.stands b ∧ t.stands b' := by
  obtain ⟨hhas, hbits⟩ := h
  rw [List.length_append, Memory.bits_add] at hbits
  obtain ⟨hb, hb'⟩ := List.append_inj hbits (by simp)
  rw [List.length_append] at hhas
  refine ⟨⟨State.has_of_le hhas (Nat.le_add_right _ _), hb⟩, ?_, by rw [hi, hp]; exact hb'⟩
  simp only [State.has, State.inputBits, hi, hp] at hhas ⊢
  omega

theorem State.stands.window {s : State} {b : Bits} (h : s.stands b) (h16 : b.length ≤ 16) : ∃ rest, s.window = b ++ rest := by
  obtain ⟨rest, hrest⟩ := s.window_prefix h.1 h16
  exact ⟨rest, by rw [← hrest, h.2]⟩

theorem valueOf_bitsOf {n v : Nat} (h : v < 2 ^ n) : valueOf (bitsOf n v) = v := by
  induction n generalizing v with
  | zero => simp [bitsOf, valueOf]; omega
  | succ n ih =>
    rw [bitsOf, valueOf, ih (by rw [Nat.pow_succ] at h; omega)]
    rcases Nat.mod_two_eq_zero_or_one v with hv | hv <;> simp [hv] <;> omega

@[simp] theorem length_bitsOf (n v : Nat) : (bitsOf n v).length = n := by
  induction n generalizing v with
  | zero => rfl
  | succ n ih => simp [bitsOf, ih]

theorem State.stands.peek {s : State} {n v : Nat} (h : s.stands (bitsOf n v)) (hv : v < 2 ^ n) : s.peek n = v := by
  obtain ⟨-, hbits⟩ := h
  rw [length_bitsOf] at hbits
  rw [State.peek, ← Memory.valueOf_bits, hbits, valueOf_bitsOf hv]

/-! ### The code-length code -/

/-- The share of one code-length-code length in units of `2 ^ -5` (41_prefix_codes.md R108). -/
def shareOf (v : Nat) : Nat := if v = 0 then 0 else 32 / 2 ^ v

theorem share32_eq (vs : List Nat) : share32 vs = (vs.map shareOf).sum := rfl

@[simp] theorem share32_cons (v : Nat) (vs : List Nat) : share32 (v :: vs) = shareOf v + share32 vs := rfl

theorem Work.codeLength_eq (w : Work) (sym v : Nat) : w.codeLength sym v = { w with
    cl := w.cl.set sym v
    index := w.index + 1
    num := w.num + if v = 0 then 0 else 1
    space := w.space - (shareOf v : Nat) } := by
  by_cases h : v = 0 <;> simp [Work.codeLength, shareOf, h, Nat.shiftRight_eq_div_pow]

/-- The bits of code-length-code lengths. -/
def clclBits (vs : List Nat) : Bits := (vs.map fun v => pattern (clclPattern v)).flatten

/-- The workspace after code-length-code lengths `vs` (41_prefix_codes.md R108). -/
def Work.codeLengths (w : Work) (vs : List Nat) : Work := { w with
  cl := ((codeLengthOrder.drop w.index).zip vs).foldl (fun T p => T.set p.1 p.2) w.cl
  index := w.index + vs.length
  num := w.num + (vs.filter (· ≠ 0)).length
  space := w.space - (share32 vs : Nat) }

theorem Work.codeLengths_nil (w : Work) : w.codeLengths [] = w := by simp [Work.codeLengths, share32]

theorem Work.codeLengths_cons (w : Work) (v : Nat) (vs : List Nat) {sym : Nat} (h : codeLengthOrder[w.index]? = some sym) :
    (w.codeLength sym v).codeLengths vs = w.codeLengths (v :: vs) := by
  obtain ⟨hlt, hsym⟩ := List.getElem?_eq_some_iff.mp h
  rw [Work.codeLength_eq, Work.codeLengths, Work.codeLengths, List.drop_eq_getElem_cons hlt, hsym]
  by_cases hv : v = 0 <;> simp [hv, shareOf] <;> omega

/-- The loop over the code-length-code lengths (41_prefix_codes.md R108). -/
theorem iterateWhile_clcl {vs : List Nat} {n : Nat} {s : State} (hindex : s.work.index + vs.length ≤ 18)
    (h5 : ∀ v ∈ vs, v ≤ 5) (hspace : ∀ j < vs.length, (share32 (vs.take j) : Int) < s.work.space) (hn : vs.length ≤ n)
    (hend : n = vs.length ∨ s.work.space = share32 vs) (hbits : s.stands (clclBits vs)) :
    iterateWhile n (fun t => decide (0 < t.work.space)) (runElement (.field .clcl)) s =
      .ok { s with bitpos := s.bitpos + (clclBits vs).length, work := s.work.codeLengths vs } := by
  induction vs generalizing n s with
  | nil =>
    have hstop : iterateWhile n (fun t => decide (0 < t.work.space)) (runElement (.field .clcl)) s = .ok s := by
      cases n with
      | zero => rfl
      | succ n =>
        have h0 : s.work.space = 0 := by simpa [share32] using hend
        rw [iterateWhile, if_neg (by simp [h0])]
    rw [hstop, Work.codeLengths_nil]
    rfl
  | cons v vs ih =>
    obtain ⟨n, rfl⟩ := Nat.exists_eq_add_of_le' (show 1 ≤ n from Nat.le_trans (by simp) hn)
    have hpos : 0 < s.work.space := by simpa [share32] using hspace 0 (by simp)
    have hlt : s.work.index < codeLengthOrder.length := by
      simp only [List.length_cons] at hindex
      simp only [codeLengthOrder, List.length_cons, List.length_nil]
      omega
    have hsym := List.getElem?_eq_getElem hlt
    let t : State := { s with
      bitpos := s.bitpos + (clclPattern v).length, work := s.work.codeLength codeLengthOrder[s.work.index] v }
    have hlength : (pattern (clclPattern v)).length = (clclPattern v).length := by simp [pattern]
    obtain ⟨hstands, hrest⟩ := State.stands_append (s := s) (t := t) (b := pattern (clclPattern v)) (b' := clclBits vs)
      (by simpa [clclBits] using hbits) rfl (by rw [hlength])
    obtain ⟨hhas, heq⟩ := hstands
    rw [hlength] at hhas heq
    have hread : runElement (.field .clcl) s = .ok t := by
      rw [runElement_clcl (h5 v (by simp)) hhas heq, codeLengthLength_eq, skip_eq hhas, Res.ok_bind]
      simp only [State.advance_work, hsym]
      rfl
    have hshare : t.work.space = s.work.space - (shareOf v : Nat) := by simp only [t, Work.codeLength_eq]
    rw [iterateWhile, if_pos (by simpa using hpos), hread, Res.ok_bind,
      ih (s := t) (n := n) ?_ (fun v' hv' => h5 v' (by simp [hv'])) ?_ (by simpa using hn) ?_ hrest]
    · simp [t, Work.codeLengths_cons _ _ _ hsym, clclBits, hlength, Nat.add_assoc]
    · simp only [t, Work.codeLength_eq, List.length_cons] at hindex ⊢
      omega
    · intro j hj
      have := hspace (j + 1) (by simpa using hj)
      rw [List.take_succ_cons, share32_cons] at this
      omega
    · rw [share32_cons, List.length_cons] at hend
      omega

end Sys2Proof.Machine
end

section
/-! SUPPORT. Reading a complex prefix code, continued: the code-length code is a prefix code, its symbols write their lengths, and
the vector they write is the code read (41_prefix_codes.md R109 to R117). -/

namespace Sys2Proof.Machine

/-! ### The code-length code is one -/

/-- What setting entries leaves at a place: the last value set there, or what stood there. -/
theorem getElem?_foldl_set {ps : List (Nat × Nat)} {T : List Nat} (hd : (ps.map Prod.fst).Nodup) {y : Nat} (hy : y < T.length) :
    (ps.foldl (fun T p => T.set p.1 p.2) T)[y]? = some ((ps.lookup y).getD T[y]) := by
  induction ps generalizing T with
  | nil => simp [hy]
  | cons p ps ih =>
    obtain ⟨hp, hd⟩ := List.nodup_cons.mp hd
    rw [List.foldl_cons, ih hd (by simpa using hy), List.lookup_cons]
    by_cases h : y = p.1
    · subst h
      have hnone : ps.lookup p.1 = none := by
        rw [List.lookup_eq_none_iff]
        intro q hq
        have hne : p.1 ≠ q.1 := fun he => hp (he ▸ List.mem_map_of_mem hq)
        simpa using hne
      simp [hnone]
    · have hne : (y == p.1) = false := by simpa using h
      rw [hne, List.getElem_set_ne (Ne.symm h)]

/-- The code-length code, entry by entry. -/
theorem lengthsOf_eq_lookup {A : Nat} {ps : List (Nat × Nat)} (hd : (ps.map Prod.fst).Nodup) :
    lengthsOf A ps = (List.range A).map fun y => (ps.lookup y).getD 0 := by
  refine List.ext_getElem? fun y => ?_
  by_cases hy : y < A
  · rw [lengthsOf, getElem?_foldl_set hd (by simpa using hy)]
    simp [hy]
  · rw [List.getElem?_eq_none (by simpa using hy), List.getElem?_eq_none (by simpa using hy)]

theorem map_fst_zip_sublist {α β : Type} (as : List α) (bs : List β) : ((as.zip bs).map Prod.fst).Sublist as := by
  induction as generalizing bs with
  | nil => simp
  | cons a as ih =>
    cases bs with
    | nil => simp
    | cons b bs => exact (ih bs).cons_cons a

section
variable {hskip : Nat} {vs : List Nat}

theorem clcl_keys (hskip : Nat) (vs : List Nat) : (((codeLengthOrder.drop hskip).zip vs).map Prod.fst).Nodup ∧
    ∀ p ∈ (codeLengthOrder.drop hskip).zip vs, p.1 < 18 := by
  have horder : codeLengthOrder.Nodup ∧ ∀ y ∈ codeLengthOrder, y < 18 := by decide
  exact ⟨(horder.1.sublist (List.drop_sublist _ _)).sublist (map_fst_zip_sublist _ _),
    fun p hp => horder.2 _ (List.mem_of_mem_drop (List.of_mem_zip hp).1)⟩

theorem clcl_values (hlen : vs.length ≤ 18 - hskip) : ((codeLengthOrder.drop hskip).zip vs).map Prod.snd = vs :=
  List.map_snd_zip (by simpa [codeLengthOrder] using hlen)

theorem clcl_kraft (hlen : vs.length ≤ 18 - hskip) (h5 : ∀ v ∈ vs, v ≤ 5) :
    kraft (lengthsOf 18 ((codeLengthOrder.drop hskip).zip vs)) = 1024 * share32 vs := by
  have hshare : ∀ v ≤ 5, kraftOf v = 1024 * shareOf v := by decide
  have hsum : ∀ l : List Nat, (∀ v ∈ l, v ≤ 5) → (l.map kraftOf).sum = 1024 * share32 l := by
    intro l hl
    induction l with
    | nil => rfl
    | cons v l ih =>
      rw [List.map_cons, List.sum_cons, share32_cons, ih fun v' hv' => hl v' (by simp [hv']), hshare v (hl v (by simp))]
      ring
  obtain ⟨hd, hlt⟩ := clcl_keys hskip vs
  rw [kraft_lengthsOf hd hlt, ← hsum vs h5]
  conv_rhs => rw [← clcl_values hlen, List.map_map]
  rfl

theorem clcl_length_le (h5 : ∀ v ∈ vs, v ≤ 5) {l : Nat} (hl : l ∈ lengthsOf 18 ((codeLengthOrder.drop hskip).zip vs)) :
    l ≤ 5 := by
  obtain rfl | ⟨p, hp, rfl⟩ := mem_lengthsOf hl
  · decide
  · exact h5 _ (List.of_mem_zip hp).2

end

/-- The code-length code takes no more than the code space, also where it is one symbol alone (41_prefix_codes.md R109). -/
theorem share32_le {vs : List Nat} (h : share32 vs = 32 ∨ (vs.filter (· ≠ 0)).length = 1) : share32 vs ≤ 32 := by
  obtain h | h := h
  · exact h.le
  · have hfilter : ∀ l : List Nat, share32 l = share32 (l.filter (· ≠ 0)) := by
      intro l
      induction l with
      | nil => rfl
      | cons v l ih => by_cases hv : v = 0 <;> simp [hv, shareOf, ih]
    obtain ⟨v, hv⟩ := List.length_eq_one_iff.mp h
    rw [hfilter, hv, share32_cons]
    simp only [share32, shareOf, List.map_nil, List.sum_nil, Nat.add_zero]
    split
    · decide
    · exact Nat.div_le_self _ _

theorem codeword_length {T : PrefixCode} {v l c : Nat} (h : codeword T v = some (l, c)) : l = 0 ∨ l ∈ T := by
  unfold codeword at h
  split at h
  · split at h <;> cases h
    exact .inl rfl
  split at h
  · cases h
  · split at h <;> cases h
    exact .inr (List.mem_of_getElem? ‹_›)

/-! ### The code-length symbols -/

/-- The bits of code-length symbols with their extra bits. -/
def itemBits (cl : PrefixCode) (items : List (Nat × Nat)) : Bits :=
  (items.map fun p => (codewordBits cl p.1).getD [] ++ bitsOf (repeatExtra p.1) p.2).flatten

/-- The lengths after more code-length symbols. -/
def Lengths.writes (k : Lengths) (items : List (Nat × Nat)) : Lengths := items.foldl (fun k p => k.write p.1 p.2) k

@[simp] theorem Lengths.writes_nil (k : Lengths) : k.writes [] = k := rfl
@[simp] theorem Lengths.writes_cons (k : Lengths) (p : Nat × Nat) (items : List (Nat × Nat)) :
    k.writes (p :: items) = (k.write p.1 p.2).writes items := rfl

/-- Every code-length symbol writes at least one length. -/
theorem Lengths.length_write (k : Lengths) (sym x : Nat) : k.lens.length < (k.write sym x).lens.length := by
  unfold Lengths.write
  split
  · simp
  · have hmore (o e : Nat) : o < (if o = 0 then 0 else (o - 2) * 2 ^ e) + x + 3 := by
      split
      · omega
      · have : o - 2 ≤ (o - 2) * 2 ^ e := Nat.le_mul_of_pos_right _ (Nat.two_pow_pos e)
        omega
    have := hmore (if k.repLen = (if sym = 16 then k.prev else 0) then k.rep else 0) (repeatExtra sym)
    simp only [List.length_append, List.length_replicate]
    omega

theorem Lengths.length_writes (k : Lengths) (items : List (Nat × Nat)) :
    k.lens.length + items.length ≤ (k.writes items).lens.length := by
  induction items generalizing k with
  | nil => simp
  | cons p items ih =>
    have := ih (k.write p.1 p.2)
    have := k.length_write p.1 p.2
    rw [Lengths.writes_cons, List.length_cons]
    omega

@[simp] theorem Work.literal_cl (w : Work) (c : Nat) : (w.literal c).cl = w.cl := by
  unfold Work.literal
  dsimp only
  split <;> rfl

@[simp] theorem Work.repeats_cl (w : Work) (newLen eb x : Nat) : (w.repeats newLen eb x).cl = w.cl := by
  rw [Work.repeats_eq]

/-- A code-length symbol that is decoded writes its lengths (41_prefix_codes.md R112 to R116). -/
theorem codeLength_writes {A : Nat} {k : Lengths} {s : State} (hs : s.work.Holds A k) {v x l c : Nat}
    (hv : codeword s.work.cl v = some (l, c)) (hroom : (k.write v x).lens.length ≤ A) (hsym : v < 18) (hhas : s.has (l + repeatExtra v))
    (hx : (s.advance l).peek (repeatExtra v) = x) : ∃ w, symbolEffect .codeLength v s = .ok { s with
      bitpos := s.bitpos + (l + repeatExtra v), work := w } ∧ w.Holds A (k.write v x) ∧ w.cl = s.work.cl := by
  have hlt := k.length_write v x
  have hconsume : consume (some s.work.cl) v s = .ok (s.advance l) := consume_eq hv (by simp only [State.has] at hhas; omega)
  simp only [symbolEffect]
  by_cases h16 : v < 16
  · have hextra : repeatExtra v = 0 := by simp [repeatExtra, show v ≠ 16 by omega, show v ≠ 17 by omega]
    rw [if_pos h16, literalLength_eq, hconsume, hextra]
    exact ⟨s.work.literal v, rfl, hs.literal x h16 (by omega), by simp⟩
  · have hroom' : k.lens.length + k.run v x ≤ A := by
      rw [k.write_repeat x h16] at hroom
      simpa using hroom
    have hread : readBits (repeatExtra v) (s.advance l) = .ok (x, (s.advance l).advance (repeatExtra v)) := by
      rw [readBits_eq (by simp only [State.has, State.advance_bitpos, State.advance_inputBits] at hhas ⊢; omega)]
      exact congrArg (fun y => Except.ok (y, _)) hx
    have hfits : ¬s.work.alphabet < s.work.symbol + s.work.delta (k.repeatOf v) (repeatExtra v) x := by
      rw [hs.delta x h16, hs.alphabet, hs.symbol]
      omega
    have hrepeat : repeatLength (k.repeatOf v) (repeatExtra v) (s.advance l) = .ok { s with
        bitpos := s.bitpos + (l + repeatExtra v), work := s.work.repeats (k.repeatOf v) (repeatExtra v) x } := by
      rw [repeatLength_eq, hread, Res.ok_bind]
      simp only [State.advance_work, if_neg hfits, State.advance_advance]
      rfl
    refine ⟨_, ?_, hs.repeats h16 hroom', by simp⟩
    rw [if_neg h16, ← hrepeat]
    obtain rfl | rfl : v = 16 ∨ v = 17 := by omega
    · rw [if_pos rfl, repeatPrevious, hconsume, Res.ok_bind, State.advance_work, hs.prev]
      rfl
    · rw [if_neg (by decide), repeatZero, hconsume]
      rfl

end Sys2Proof.Machine
end

section
/-! Obligation O48. A complex prefix code as a whole, and SETUP from its parts. -/

namespace Sys2Proof.Machine

theorem codeword_lt {T : PrefixCode} {v l c : Nat} (h : codeword T v = some (l, c)) : v < T.length := by
  unfold codeword at h
  split at h
  · split at h <;> cases h
    exact ‹v = _› ▸ oneSymbol_lt ‹_›
  split at h
  · cases h
  · exact (List.getElem?_eq_some_iff.mp ‹_›).1

/-- What the symbols of a code-length code need of it: its lengths are small and it is no more than full. -/
structure ClCode (cl : PrefixCode) : Prop where
  length : cl.length = 18
  small : ∀ l ∈ cl, l ≤ 5
  kraft : kraft cl ≤ 32768

/-- One code-length symbol, read from its bits. -/
theorem runSymbol_codeLength {A : Nat} {k : Lengths} {s : State} (hcl : ClCode s.work.cl) (hs : s.work.Holds A k) {p : Nat × Nat}
    (hp : (codeword s.work.cl p.1).isSome = true) (hx : p.2 < 2 ^ repeatExtra p.1) (hroom : (k.write p.1 p.2).lens.length ≤ A)
    (hbits : s.stands ((codewordBits s.work.cl p.1).getD [] ++ bitsOf (repeatExtra p.1) p.2)) :
    ∃ w, runSymbol .codeLength (some s.work.cl) s = .ok { s with
      bitpos := s.bitpos + ((codewordBits s.work.cl p.1).getD [] ++ bitsOf (repeatExtra p.1) p.2).length, work := w } ∧
      w.Holds A (k.write p.1 p.2) ∧ w.cl = s.work.cl := by
  obtain ⟨⟨l, c⟩, hc⟩ := Option.isSome_iff_exists.mp hp
  have hl : l ≤ 5 := by
    obtain rfl | hl := codeword_length hc
    · decide
    · exact hcl.small l hl
  have hsym : p.1 < 18 := hcl.length ▸ codeword_lt hc
  have hword : (codewordBits s.work.cl p.1).getD [] = (bitsOf l c).reverse := by simp [codewordBits, hc]
  rw [hword] at hbits ⊢
  have hlength : ((bitsOf l c).reverse ++ bitsOf (repeatExtra p.1) p.2).length = l + repeatExtra p.1 := by simp
  obtain ⟨hcode, hextra⟩ := State.stands_append (s := s) (t := s.advance l) hbits rfl (by simp)
  obtain ⟨rest, hrest⟩ := hcode.window (by simp; omega)
  have hdecode : decodeSymbol s.work.cl s.window = .ok (p.1, l) := by
    rw [hrest]
    exact decodeSymbol_codeword hc (by omega) hcl.kraft rest
  rw [hlength, runSymbol_decoded hdecode (by simpa [symbolRow, codeLengthRows] using hsym)]
  exact codeLength_writes hs hc hroom hsym (hlength ▸ hbits.1) (hextra.peek hx)

/-- The loop over the code-length symbols (41_prefix_codes.md R111). -/
theorem iterateWhile_items {A : Nat} {items : List (Nat × Nat)} {n : Nat} {s : State} {k : Lengths} (hcl : ClCode s.work.cl)
    (hs : s.work.Holds A k) (hitems : ∀ p ∈ items, (codeword s.work.cl p.1).isSome = true ∧ p.2 < 2 ^ repeatExtra p.1)
    (hopen : ∀ j < items.length, (k.writes (items.take j)).lens.length < A ∧ kraft (k.writes (items.take j)).lens < 32768)
    (hfit : (k.writes items).lens.length ≤ A) (hfull : kraft (k.writes items).lens = 32768) (hn : items.length ≤ n)
    (hbits : s.stands (itemBits s.work.cl items)) :
    ∃ w, iterateWhile n (fun t => decide (t.work.symbol < t.work.alphabet ∧ 0 < t.work.space))
      (fun t => runSymbol .codeLength (some t.work.cl) t) s =
        .ok { s with bitpos := s.bitpos + (itemBits s.work.cl items).length, work := w } ∧ w.Holds A (k.writes items) := by
  induction items generalizing n s k with
  | nil =>
    refine ⟨s.work, ?_, hs⟩
    have hspace : s.work.space = 0 := by
      rw [hs.space, show kraft k.lens = 32768 from hfull]
      rfl
    cases n with
    | zero => rfl
    | succ n =>
      rw [iterateWhile, if_neg (by simp [hspace])]
      rfl
  | cons p items ih =>
    obtain ⟨n, rfl⟩ := Nat.exists_eq_add_of_le' (show 1 ≤ n from Nat.le_trans (by simp) hn)
    obtain ⟨hp, hx⟩ := hitems p (by simp)
    obtain ⟨hlt, hkraft⟩ : k.lens.length < A ∧ kraft k.lens < 32768 := hopen 0 (by simp)
    have hcond : s.work.symbol < s.work.alphabet ∧ 0 < s.work.space := by
      rw [hs.symbol, hs.alphabet, hs.space]
      omega
    have hroom : (k.write p.1 p.2).lens.length ≤ A :=
      (Nat.le_add_right _ _).trans (((k.write p.1 p.2).length_writes items).trans hfit)
    let word := (codewordBits s.work.cl p.1).getD [] ++ bitsOf (repeatExtra p.1) p.2
    have hsplit : itemBits s.work.cl (p :: items) = word ++ itemBits s.work.cl items := rfl
    rw [hsplit] at hbits ⊢
    have hword := (State.stands_append (s := s) (t := s.advance word.length) hbits rfl rfl).1
    obtain ⟨w, hread, hw, hwcl⟩ := runSymbol_codeLength hcl hs hp hx hroom hword
    let t : State := { s with bitpos := s.bitpos + word.length, work := w }
    have hrest := (State.stands_append (s := s) (t := t) hbits rfl rfl).2
    obtain ⟨w', hloop, hw'⟩ := ih (n := n) (s := t) (k := k.write p.1 p.2) (hwcl ▸ hcl) hw
      (fun q hq => hwcl ▸ hitems q (by simp [hq])) (fun j hj => by simpa using hopen (j + 1) (by simpa using hj)) hfit hfull
      (by simpa using hn) (hwcl ▸ hrest)
    refine ⟨w', ?_, hw'⟩
    rw [iterateWhile, if_pos (by simpa using hcond), hread, Res.ok_bind, hloop]
    simp [t, hwcl, Nat.add_assoc]

/-- A complex prefix code is the vector that its code-length symbols write (41_prefix_codes.md R108 to R117). -/
theorem readPrefixCode_complex {s : State} {A hskip : Nat} {vs : List Nat} {items : List (Nat × Nat)} (hmem : hskip ∈ [0, 2, 3])
    (hlen : vs.length ≤ 18 - hskip) (h5 : ∀ v ∈ vs, v ≤ 5) (hspace : ∀ j < vs.length, share32 (vs.take j) < 32)
    (hend : share32 vs = 32 ∨ vs.length = 18 - hskip ∧ (vs.filter (· ≠ 0)).length = 1) {cl : PrefixCode}
    (hcl : lengthsOf 18 ((codeLengthOrder.drop hskip).zip vs) = cl)
    (hitems : ∀ p ∈ items, (codeword cl p.1).isSome = true ∧ p.2 < 2 ^ repeatExtra p.1)
    (hopen : ∀ j < items.length, (Lengths.start.writes (items.take j)).lens.length < A ∧
      kraft (Lengths.start.writes (items.take j)).lens < 32768)
    (hfit : (Lengths.start.writes items).lens.length ≤ A) (hfull : kraft (Lengths.start.writes items).lens = 32768)
    {bits : Bits} (hbits : bitsOf 2 hskip ++ (clclBits vs ++ itemBits cl items) = bits) (hs : s.stands bits) :
    ∃ w, readPrefixCode A s = .ok { s with bitpos := s.bitpos + bits.length, work := w } ∧
      w.lens = (Lengths.start.writes items).lens ++ List.replicate (A - (Lengths.start.writes items).lens.length) 0 := by
  subst hbits
  let s₀ : State := { s with work := { s.work with alphabet := A } }
  let s₁ : State := { s₀ with
    bitpos := s.bitpos + 2
    work := { s₀.work with hskip := hskip, index := hskip, cl := List.replicate 18 0, num := 0, space := 32 } }
  let s₂ : State := { s₁ with bitpos := s₁.bitpos + (clclBits vs).length, work := s₁.work.codeLengths vs }
  let s₃ : State := { s₂ with work := { s₂.work with
    lens := List.replicate A 0, symbol := 0, prevLen := 8, rep := 0, repLen := 0, space := 32768 } }
  have hskip3 : hskip ≤ 3 := by
    simp only [List.mem_cons, List.not_mem_nil, or_false] at hmem
    omega
  obtain ⟨hfirst, hrest⟩ := State.stands_append (s := s) (t := s₁) hs rfl (by simp [s₁])
  obtain ⟨hclcl, hsyms⟩ := State.stands_append (s := s₁) (t := s₃) hrest rfl rfl
  have hhas : s₀.has 2 := hfirst.1
  have hpeek : s₀.peek 2 = hskip := hfirst.peek (by omega)
  have hstart : runElement (.field .hskip) s₀ = .ok s₁ := by
    rw [runElement_hskip_complex hhas (by rw [hpeek]; rintro rfl; simp at hmem), hpeek, startComplex, skip_eq hhas]
    rfl
  have hloop : iterateWhile (18 - hskip) (fun t => decide (0 < t.work.space)) (runElement (.field .clcl)) s₁ = .ok s₂ :=
    iterateWhile_clcl (s := s₁) (by simp only [s₁]; omega) h5 (fun j hj => Int.ofNat_lt.mpr (hspace j hj)) hlen
      (hend.symm.imp (fun h => h.1.symm) fun h => by rw [h]; rfl) hclcl
  have hcheck : checkCodeLengths s₂ = .ok s₃ := by
    refine if_pos ?_
    simp only [s₂, s₁, Work.codeLengths]
    obtain h | ⟨-, h⟩ := hend
    · exact .inr (by rw [h]; rfl)
    · exact .inl (by rw [h])
  have hs₃ : s₃.work.cl = cl := hcl
  have hcode : ClCode s₃.work.cl := by
    rw [hs₃, ← hcl]
    refine ⟨length_lengthsOf .., fun l hl => clcl_length_le h5 hl, ?_⟩
    have := share32_le (hend.imp_right And.right)
    rw [clcl_kraft hlen h5]
    omega
  have hholds : s₃.work.Holds A .start :=
    ⟨rfl, Nat.zero_le _, by simp [s₃, Lengths.start], rfl, rfl, rfl, rfl, rfl⟩
  have hcount : items.length ≤ A := by
    have := Lengths.start.length_writes items
    omega
  obtain ⟨w, hread, hw⟩ := iterateWhile_items hcode hholds (hs₃.symm ▸ hitems) hopen hfit hfull hcount (hs₃.symm ▸ hsyms)
  have hspace₀ : w.space = 0 := by
    rw [hw.space, hfull]
    rfl
  refine ⟨w, ?_, hw.lens⟩
  rw [readPrefixCode, show runElement (.field .hskip) { s with work := { s.work with alphabet := A } } = _ from hstart,
    Res.ok_bind, if_neg (by simp only [s₁]; rintro rfl; simp at hmem), readComplex,
    show iterateWhile (18 - s₁.work.hskip) _ _ s₁ = _ from hloop, Res.ok_bind, hcheck, Res.ok_bind,
    show iterateWhile s₃.work.alphabet _ _ s₃ = _ from hread, Res.ok_bind, checkSpace, if_pos hspace₀, hs₃]
  simp [s₃, s₂, s₁, s₀, Nat.add_assoc]

/-- Settles O48: SETUP is its parts in order, each of which is what its bits or its reads say. -/
theorem setupWritesEveryTable : Obligations.SetupWritesEveryTable := by
  refine ⟨?_, ?_, ?_, fun s h => distanceParameters_eq h, fun s halloc h => contextModes_eq halloc h,
    fun s x halloc h0 hx => treeGroups_eq halloc h0 hx, ?_⟩
  · intro s hstate halloc h p lit cmd dist h0 hl hi hd hcmd
    exact exec_setup hstate (opSetup_smallest halloc h h0 hl hi hd hcmd)
  · intro s a b c d e f g t hstate ha hb hc hd he hf hg ht
    exact exec_setup hstate (opSetup_parts ha hb hc hd he hf hg ht)
  · intro k s a h
    exact ⟨blockHeader_one h, fun hn halloc b d j l hb hd hj hbits => blockHeader_several h hn halloc hb hd hj hbits⟩
  · intro s A hskip vs items hmem hlen h5 hspace hend order cl hitems hopen T hfit hfull bits hhas hbits
    refine readPrefixCode_complex (bits := bits) (cl := cl) hmem hlen h5 hspace hend
      (lengthsOf_eq_lookup (clcl_keys hskip vs).1) hitems hopen hfit hfull ?_ ⟨hhas, hbits⟩
    rw [← List.append_assoc]
    rfl

end Sys2Proof.Machine
end

section
/-! Obligations O23 and O24. The memory spaces as they are read: whole bytes of the input, and the last bytes of the output. -/

namespace Sys2Proof.Machine

/-! ### Whole bytes of the input -/

/-- The eight bits of a byte of the space are its value (20_memory.md R52). -/
theorem Memory.field_byte {m : Memory} {i : Nat} {b : Byte} (h : m.read i = some b) : m.field (8 * i) 8 = b.toNat := by
  refine Nat.eq_of_testBit_eq fun j => ?_
  by_cases hj : j < 8
  · have hdiv : (8 * i + j) / 8 = i := by omega
    have hmod : (8 * i + j) % 8 = j := by omega
    rw [m.testBit_field _ _ _ hj, Memory.bit, hdiv, h, hmod, BitVec.testBit_toNat]
  · have hpow : 2 ^ 8 ≤ 2 ^ j := Nat.pow_le_pow_right (by decide) (by omega)
    rw [Nat.testBit_lt_two_pow ((m.field_lt _ 8).trans_le hpow), Nat.testBit_lt_two_pow (b.isLt.trans_le hpow)]

/-- One read of 8 bits that is appended (40_bitreader.md R99). -/
def appendByte (s : State) : Res State := do
  let (v, t) ← readBits 8 s
  return t.append (BitVec.ofNat 8 v)

theorem appendByte_eq {s : State} {b : Byte} (hbyte : s.bitpos % 8 = 0) (h : s.inp.read (s.bitpos / 8) = some b)
    (hfits : s.has 8) : appendByte s = .ok ((s.append b).advance 8) := by
  have hpos : s.bitpos = 8 * (s.bitpos / 8) := by omega
  have hfield : s.inp.field s.bitpos 8 = b.toNat := by rw [hpos]; exact Memory.field_byte h
  have hvalue : BitVec.ofNat 8 (s.inp.field s.bitpos 8) = b := by rw [hfield, BitVec.ofNat_toNat, BitVec.setWidth_eq]
  rw [appendByte, readBits_eq hfits, Res.ok_bind]
  exact congrArg (fun b => Except.ok ((s.append b).advance 8)) hvalue

/-- Appending does not depend on the cursor. -/
theorem State.advance_appendAll (s : State) (n : Nat) (bs : List Byte) :
    (s.advance n).appendAll bs = (s.appendAll bs).advance n := by
  induction bs generalizing s with
  | nil => rfl
  | cons b bs ih => exact ih (s.append b)

/-- As many reads of 8 bits append the input bytes that stand at the cursor. -/
theorem iterate_appendByte {m : Nat} {s : State} {bs : List Byte} (hbyte : s.bitpos % 8 = 0)
    (hfits : s.bitpos / 8 + m ≤ s.inp.size) (h : s.inp.slice (s.bitpos / 8) m = some bs) :
    iterate m appendByte s = .ok ((s.appendAll bs).advance (8 * m)) := by
  induction m generalizing s bs with
  | zero => cases h; rfl
  | succ m ih =>
    obtain ⟨b, hb, h⟩ := Option.bind_eq_some_iff.mp h
    obtain ⟨cs, hcs, hbs⟩ := Option.bind_eq_some_iff.mp h
    obtain rfl : b :: cs = bs := Option.some.inj hbs
    have hnext : (s.bitpos + 8) / 8 = s.bitpos / 8 + 1 := by omega
    have hread : appendByte s = .ok ((s.append b).advance 8) :=
      appendByte_eq hbyte hb (by simp only [State.has, State.inputBits]; omega)
    rw [iterate, hread, Res.ok_bind, ih (s := (s.append b).advance 8) (bs := cs) (by simp; omega)
      (by simp [hnext]; omega) (by simpa [hnext] using hcs), State.advance_appendAll, State.advance_advance, ← State.appendAll,
      Nat.mul_succ, Nat.add_comm]

/-- Bytes that are left in the input are copied to the output (40_bitreader.md R99). -/
theorem readBytes_eq {m : Nat} {s : State} (hwf : s.inp.wf = true) (hfits : s.bitpos / 8 + m ≤ s.inp.size) :
    readBytes m s = .ok ((s.appendAll ((s.inp.bytes.drop (s.bitpos / 8)).take m)).advance (8 * m)) := by
  rw [readBytes, if_pos hfits, Memory.slice_eq hwf hfits]

/-- Settles O23: the input bytes that `readBytes` copies are the values of its 8-bit fields. -/
theorem readBytesEqualsEightBitReads : Obligations.ReadBytesEqualsEightBitReads := by
  intro m s hwf hbyte
  refine ⟨fun hfits => ?_, fun hshort => if_neg (by omega)⟩
  have hread := readBytes_eq hwf hfits
  refine ⟨?_, hread.trans (iterate_appendByte hbyte hfits (Memory.slice_eq hwf hfits)).symm⟩
  rw [hread, State.appendAll_eq]
  rfl

/-! ### The ring buffer -/

/-- The ring entry of an address is the byte there, for the last WINDOW_SIZE addresses (20_memory.md R55). -/
theorem State.ringByte_eq {s : State} {a : Nat} (ha : a < s.pos) (hlast : s.pos - s.windowSize ≤ a) :
    s.ringByte (a % s.windowSize) = s.out.read a := by
  have hW : 0 < s.windowSize := Nat.two_pow_pos _
  have hj : a % s.windowSize < s.windowSize := Nat.mod_lt _ hW
  have hle : a % s.windowSize ≤ a := Nat.mod_le _ _
  have hback : s.pos - 1 - a % s.windowSize = (s.pos - 1 - a) + s.windowSize * (a / s.windowSize) := by
    have := Nat.mod_add_div a s.windowSize
    omega
  rw [State.ringByte, if_pos ⟨hj, by omega⟩, hback, Nat.add_mul_mod_self_left, Nat.mod_eq_of_lt (by omega)]
  congr 1
  omega

/-- Settles O24: a backward distance within the bound stays within the last WINDOW_SIZE bytes. -/
theorem ringBufferHoldsTheLastBytes : Obligations.RingBufferHoldsTheLastBytes := by
  refine fun s => ⟨fun a ha hlast => State.ringByte_eq ha hlast, fun d h1 hd => ?_⟩
  have hread : s.outRead d = s.out.read (s.pos - d) := if_pos ⟨h1, hd⟩
  simp only [State.maxBackward] at hd
  exact ⟨hread, hread.trans (State.ringByte_eq (by omega) (by omega)).symm⟩

end Sys2Proof.Machine
end

section
/-! SUPPORT. The cursor only moves on (20_memory.md R53): every computation that starts at or behind a place leaves the cursor at
or behind it, whether it completes or raises. -/

namespace Sys2Proof.Machine

/-- Where the computation completes or raises, the cursor stands at `n` or further on. -/
structure Forward (n : Nat) (r : Res State) : Prop where
  completes : Ensures (fun t => n ≤ t.bitpos) r
  raises : RaisesAt (n ≤ ·) r

theorem forward_iff {n : Nat} {r : Res State} :
    Forward n r ↔ Ensures (fun t => n ≤ t.bitpos) r ∧ RaisesAt (n ≤ ·) r :=
  ⟨fun h => ⟨h.completes, h.raises⟩, fun ⟨hc, hr⟩ => ⟨hc, hr⟩⟩

namespace Forward
variable {n : Nat} {r : Res State} {f : State → Res State}

theorem ok {t : State} (h : n ≤ t.bitpos) : Forward n (.ok t) := ⟨(ensures_ok t).mpr h, raisesAt_ok t⟩

theorem fault (x : Fault) : Forward n (.error (.fault x)) := ⟨ensures_error _, raisesAt_fault x⟩

theorem refuse (x : Refusal) : Forward n (.error (.refuse x)) := ⟨ensures_error _, raisesAt_refuse x⟩

theorem raise {s : State} (h : n ≤ s.bitpos) (k : ErrorKind) (m : String) : Forward n (raise k m s) :=
  ⟨ensures_raise k m s, (raisesAt_raise k m s).mpr h⟩

theorem bind (h : Forward n r) (hf : ∀ t, n ≤ t.bitpos → Forward n (f t)) : Forward n (r >>= f) where
  completes := h.completes.bind fun t ht => (hf t ht).completes
  raises := (raisesAt_bind r f).mpr ⟨h.raises, h.completes.mono fun t ht => (hf t ht).raises⟩

theorem iterate (hf : ∀ t, n ≤ t.bitpos → Forward n (f t)) (k : Nat) {s : State} (h : n ≤ s.bitpos) :
    Forward n (iterate k f s) := by
  induction k generalizing s with
  | zero => exact .ok h
  | succ k ih => exact (hf s h).bind fun t ht => ih ht

theorem iterateWhile (hf : ∀ t, n ≤ t.bitpos → Forward n (f t)) (c : State → Bool) (k : Nat) {s : State} (h : n ≤ s.bitpos) :
    Forward n (iterateWhile k c f s) := by
  induction k generalizing s with
  | zero => exact .ok h
  | succ k ih =>
    unfold Machine.iterateWhile
    split
    · exact (hf s h).bind fun t ht => ih ht
    · exact .ok h

end Forward

section
variable {n : Nat} {s : State} (h : n ≤ s.bitpos)
include h

/-! ### The rows -/

theorem skip_forward (k : Nat) : Forward n (skip k s) := by
  simp [forward_iff, h, Nat.le_add_right_of_le h]

theorem readBits_forward (k : Nat) {f : Nat × State → Res State} (hf : ∀ v t, n ≤ t.bitpos → Forward n (f (v, t))) :
    Forward n (readBits k s >>= f) := by
  have ht : n ≤ (s.advance k).bitpos := Nat.le_add_right_of_le h
  simp [forward_iff, h, (hf _ _ ht).completes, (hf _ _ ht).raises]

theorem consume_forward (code : Option PrefixCode) (sym : Nat) : Forward n (consume code sym s) := by
  unfold consume
  split
  · exact .fault _
  split
  · exact .fault _
  · exact skip_forward h _

theorem allocate_forward (site : AllocSite) (k : ErrorKind) : Forward n (allocate site k s) := by
  unfold allocate
  split
  · exact .raise h ..
  · exact .ok h

theorem padding_forward (k : PadKind) (m v : Nat) : Forward n (padding k m v s) := by
  refine (skip_forward h m).bind fun t ht => ?_
  split
  · exact .ok ht
  · exact .raise ht ..

theorem finalPadding_forward : Forward n (finalPadding s) := by
  refine (padding_forward h .final _ _).bind fun t ht => ?_
  split
  · exact .raise ht ..
  · exact .ok ht

theorem endOfMetaBlock_forward : Forward n (endOfMetaBlock s) := by
  unfold endOfMetaBlock
  split
  · exact (finalPadding_forward h).bind fun _ ht => .ok ht
  · exact .ok h

theorem postInsert_forward : Forward n (postInsert s) := by
  unfold postInsert
  split
  · exact endOfMetaBlock_forward h
  · exact .ok h

theorem endOfCommand_forward : Forward n (endOfCommand s) := by
  unfold endOfCommand
  split
  · exact endOfMetaBlock_forward h
  · exact .ok h

theorem largeWindow_forward (k : Nat) : Forward n (largeWindow k s) := by
  refine (skip_forward h k).bind fun t ht => ?_
  split
  · exact .refuse _
  · exact .raise ht ..

theorem lastEmptyHeader_forward : Forward n (lastEmptyHeader s) :=
  (skip_forward h 2).bind fun t ht => (finalPadding_forward (s := { t with isLast := true, isLastEmpty := true }) ht).bind
    fun _ ht => .ok ht

theorem lengthNibble_forward (x : Nat) : Forward n (lengthNibble x s) := by
  refine (skip_forward h 4).bind fun t ht => ?_
  dsimp only
  split
  · exact .raise ht ..
  split <;> exact .ok ht

theorem dispatchBody_forward : Forward n (dispatchBody s) := by
  simp +contextual [dispatchBody, forward_iff, h]

theorem skipLengthByte_forward (b : Nat) : Forward n (skipLengthByte b s) := by
  refine (skip_forward h 8).bind fun t ht => ?_
  dsimp only
  split
  · exact .raise ht ..
  · exact .ok ht

theorem simpleSymbol_forward : Forward n (simpleSymbol s) :=
  readBits_forward h _ fun v t ht => by
    dsimp only
    split
    · exact .raise ht ..
    · exact .ok ht

theorem simpleSymbols_forward (k : Nat) : Forward n (simpleSymbols k s) := by
  refine (skip_forward h 2).bind fun t ht => (Forward.iterate (fun _ => simpleSymbol_forward) k
    (s := { t with work := { t.work with syms := [] } }) ht).bind fun u hu => ?_
  split
  · split <;> exact .ok hu
  · exact .raise hu ..

theorem codeLengthLength_forward (k v : Nat) : Forward n (codeLengthLength k v s) := by
  rw [codeLengthLength_eq]
  refine (skip_forward h k).bind fun t ht => ?_
  split
  · exact .fault _
  · exact .ok ht

theorem repeatLength_forward (newLen eb : Nat) : Forward n (repeatLength newLen eb s) := by
  rw [repeatLength_eq]
  refine readBits_forward h eb fun x t ht => ?_
  dsimp only
  split
  · exact .raise ht ..
  · exact .ok ht

theorem mapRun_forward (v : Nat) : Forward n (mapRun v s) :=
  (consume_forward h _ v).bind fun t ht => readBits_forward ht v fun x u hu => by
    dsimp only
    split
    · exact .raise hu ..
    · exact .ok hu

theorem switchType_forward (c : Category) (v : Nat) : Forward n (switchType c v s) :=
  (consume_forward h _ v).bind fun t ht => .ok (by simpa using ht)

theorem renewCount_forward (c : Category) (v : Nat) : Forward n (renewCount c v s) :=
  (consume_forward h _ v).bind fun t ht => readBits_forward ht _ fun x u hu => .ok (by simpa using hu)

theorem literal_forward (b : Byte) : Forward n (literal b s) := by
  refine (consume_forward h _ _).bind fun t ht => ?_
  dsimp only
  split
  · exact postInsert_forward ht
  · exact .ok ht

theorem insertLength_forward (i : Nat) : Forward n (insertLength i s) := readBits_forward h _ fun _ _ ht => .ok ht

theorem copyLength_forward (k : Nat) : Forward n (copyLength k s) := readBits_forward h _ fun _ _ ht => .ok ht

theorem command_forward (cell sym : Nat) : Forward n (command cell sym s) := by
  refine (consume_forward h _ sym).bind fun t ht => (insertLength_forward ht _).bind fun u hu =>
    (copyLength_forward hu _).bind fun v hv => ?_
  dsimp only
  split
  · exact .raise hv ..
  split
  · exact .ok hv
  · exact postInsert_forward hv

theorem shortCode_forward (code : Nat) : Forward n (shortCode code s) := by
  refine (consume_forward h _ code).bind fun t ht => ?_
  split
  · exact .raise ht ..
  · exact .ok ht

theorem wordTransform_forward (tid : Nat) : Forward n (wordTransform tid s) := by
  unfold wordTransform
  split
  · exact .ok h
  · exact .fault _

theorem selectWord_forward (len : Nat) : Forward n (selectWord len s) := by
  unfold selectWord
  dsimp only
  split
  · exact .ok h
  · exact .fault _

/-- No element's row moves the cursor back. -/
theorem elem_forward (i : Instr) : Forward n (elem i s) := by
  cases i with
  | streamHeader | mhdr | metadata | uncompressed | setup | cmd | lit | dist | copy | dict => exact .fault _
  | wbitsLarge => exact largeWindow_forward h _
  | mhdrLast1Empty1 => exact lastEmptyHeader_forward h
  | mlenNibble x => exact lengthNibble_forward h x
  | isuncompressed0 | isuncompressed1 => exact (skip_forward h 1).bind fun t ht => dispatchBody_forward ht
  | metadataReserved0 | cmapImtf0 => exact skip_forward h 1
  | metadataReserved1 => exact (skip_forward h 1).bind fun t ht => .raise ht ..
  | mskiplenByte b => exact skipLengthByte_forward h b
  | pad k m v => exact padding_forward h k m v
  | nsym1 | nsym2 | nsym3 | nsym4 => exact simpleSymbols_forward h _
  | clcl0 | clcl3 | clcl4 | clcl2 | clcl1 | clcl5 => exact codeLengthLength_forward h _ _
  | clsym0 | clsym1 | clsym2 | clsym3 | clsym4 | clsym5 | clsym6 | clsym7 | clsym8 | clsym9 | clsym10 | clsym11 | clsym12
  | clsym13 | clsym14 | clsym15 | cmapsym0 | cmapsymValue | distDirect => exact (consume_forward h _ _).bind fun _ ht => .ok ht
  | clsym16 | clsym17 => exact (consume_forward h _ _).bind fun t ht => repeatLength_forward ht _ _
  | btype0 c | btype1 c | btypeT c => exact switchType_forward h c _
  | blen0 c | blen1 c | blen2 c | blen3 c | blen4 c | blen5 c | blen6 c | blen7 c | blen8 c | blen9 c | blen10 c | blen11 c
  | blen12 c | blen13 c | blen14 c | blen15 c | blen16 c | blen17 c | blen18 c | blen19 c | blen20 c | blen21 c | blen22 c
  | blen23 c | blen24 c | blen25 c => exact renewCount_forward h c _
  | cmapsymRun v => exact mapRun_forward h v
  | litB b => exact literal_forward h b
  | cmdCell0 sym | cmdCell1 sym | cmdCell2 sym | cmdCell3 sym | cmdCell4 sym | cmdCell5 sym | cmdCell6 sym | cmdCell7 sym
  | cmdCell8 sym | cmdCell9 sym | cmdCell10 sym => exact command_forward h _ sym
  | inscode0 | inscode1 | inscode2 | inscode3 | inscode4 | inscode5 | inscode6 | inscode7 | inscode8 | inscode9 | inscode10
  | inscode11 | inscode12 | inscode13 | inscode14 | inscode15 | inscode16 | inscode17 | inscode18 | inscode19 | inscode20
  | inscode21 | inscode22 | inscode23 => exact insertLength_forward h _
  | copycode0 | copycode1 | copycode2 | copycode3 | copycode4 | copycode5 | copycode6 | copycode7 | copycode8 | copycode9
  | copycode10 | copycode11 | copycode12 | copycode13 | copycode14 | copycode15 | copycode16 | copycode17 | copycode18
  | copycode19 | copycode20 | copycode21 | copycode22 | copycode23 => exact copyLength_forward h _
  | dist0 | dist1 | dist2 | dist3 | dist4 | dist5 | dist6 | dist7 | dist8 | dist9 | dist10 | dist11 | dist12 | dist13
  | dist14 | dist15 => exact shortCode_forward h _
  | distLong code => exact (consume_forward h _ _).bind fun t ht => readBits_forward ht _ fun _ _ ht => .ok ht
  | topIdentity | topOmitLast1 | topOmitLast2 | topOmitLast3 | topOmitLast4 | topOmitLast5 | topOmitLast6 | topOmitLast7
  | topOmitLast8 | topOmitLast9 | topUppercaseFirst | topUppercaseAll | topOmitFirst1 | topOmitFirst2 | topOmitFirst3
  | topOmitFirst4 | topOmitFirst5 | topOmitFirst6 | topOmitFirst7 | topOmitFirst8 | topOmitFirst9 | topShiftFirst
  | topShiftAll => exact .ok h
  | transformReserved => exact .raise h ..
  | dictbucket4 | dictbucket5 | dictbucket6 | dictbucket7 | dictbucket8 | dictbucket9 | dictbucket10 | dictbucket11
  | dictbucket12 | dictbucket13 | dictbucket14 | dictbucket15 | dictbucket16 | dictbucket17 | dictbucket18 | dictbucket19
  | dictbucket20 | dictbucket21 | dictbucket22 | dictbucket23 | dictbucket24 => exact selectWord_forward h _
  | wbits16 | wbits18 | wbits19 | wbits20 | wbits21 | wbits22 | wbits23 | wbits24 | wbits17 | wbits10 | wbits11 | wbits12
  | wbits13 | wbits14 | wbits15 | mhdrLast1Empty0 | mhdrLast0 | mnibbles0 | mnibbles1 | mnibbles2 | mnibbles3 | mskipbytes0
  | mskipbytes1 | mskipbytes2 | mskipbytes3 | varlen0 | varlen1 | varlenN1 | varlenN2 | varlenN3 | varlenN4 | varlenN5
  | varlenN6 | varlenN7 | npostfix0 | npostfix1 | npostfix2 | npostfix3 | ndirect | cmodeLsb6 | cmodeMsb6 | cmodeUtf8
  | cmodeSigned | cmapRlemax0 | cmapRlemax | cmapImtf1 | hskip0 | hskip1 | hskip2 | hskip3 | treeselect0 | treeselect1 =>
    exact (skip_forward h _).bind fun _ ht => .ok ht
  | _ =>
    delta elem
    exact wordTransform_forward h _

/-! ### The operations -/

theorem runElement_forward (c : Ctx) : Forward n (runElement c s) := by
  unfold runElement
  split
  · exact elem_forward h _
  · exact ⟨ensures_error _, (raisesAt_error_raise ..).mpr (Nat.le_add_right_of_le h)⟩
  all_goals exact .fault _

theorem runSymbol_forward (a : Alphabet) (code : Option PrefixCode) : Forward n (runSymbol a code s) := by
  unfold runSymbol
  split
  · exact runElement_forward h _
  · exact .fault _

theorem readSimple_forward : Forward n (readSimple s) := by
  refine (runElement_forward h _).bind fun t ht => ?_
  split
  · exact runElement_forward ht _
  · exact .ok ht

theorem checkCodeLengths_forward : Forward n (checkCodeLengths s) := by
  unfold checkCodeLengths
  dsimp only
  split
  · exact .ok h
  · exact .raise h ..

theorem checkSpace_forward : Forward n (checkSpace s) := by
  unfold checkSpace
  split
  · exact .ok h
  · exact .raise h ..

theorem readComplex_forward : Forward n (readComplex s) :=
  (Forward.iterateWhile (fun _ ht => runElement_forward ht _) _ _ h).bind fun _ ht => (checkCodeLengths_forward ht).bind
    fun _ hu => (Forward.iterateWhile (fun _ hv => runSymbol_forward hv _ _) _ _ hu).bind fun _ hv => checkSpace_forward hv

theorem readPrefixCode_forward (A : Nat) : Forward n (readPrefixCode A s) := by
  refine (runElement_forward (s := { s with work := { s.work with alphabet := A } }) h _).bind fun t ht => ?_
  split
  · exact readSimple_forward ht
  · exact readComplex_forward ht

theorem blockSwitch_forward (c : Category) : Forward n (blockSwitch c s) :=
  (runSymbol_forward h _ _).bind fun _ ht => runSymbol_forward ht _ _

theorem le_bitpos_setTracker (c : Category) (k : Tracker) : n ≤ (s.setTracker c k).bitpos := by simpa using h

theorem countSymbol_forward (c : Category) : Forward n (countSymbol c s) := by
  unfold countSymbol
  split
  · split
    · exact (blockSwitch_forward h c).bind fun t ht => .ok (le_bitpos_setTracker ht c _)
    · exact .ok (le_bitpos_setTracker h c _)
  · exact .ok h

theorem blockCodes_forward (c : Category) (m : Nat) : Forward n (blockCodes c m s) :=
  (allocate_forward h _ _).bind fun _ ht => (readPrefixCode_forward ht _).bind fun _ hu =>
    (readPrefixCode_forward (le_bitpos_setTracker hu c _) 26).bind fun _ hv =>
    runSymbol_forward (le_bitpos_setTracker hv c _) _ _

theorem blockHeader_forward (c : Category) : Forward n (blockHeader c s) := by
  rw [blockHeader_eq]
  refine (runElement_forward h _).bind fun t ht => ?_
  split
  · exact blockCodes_forward (le_bitpos_setTracker ht c _) c _
  · exact .ok (le_bitpos_setTracker ht c _)

theorem readContextMap_forward (size ntrees : Nat) : Forward n (readContextMap size ntrees s) :=
  (runElement_forward h _).bind fun _ ht => (readPrefixCode_forward ht _).bind fun u hu =>
    (Forward.iterateWhile (fun _ hv => runSymbol_forward hv _ _) _ _
      (s := { u with work := { u.work with mapSize := size, map := [] } }) hu).bind fun _ hw => runElement_forward hw _

theorem contextMap_forward (size : Nat) : Forward n (contextMap size s) := by
  refine (runElement_forward h _).bind fun _ ht => (allocate_forward ht _ _).bind fun u hu => ?_
  split
  · exact (readContextMap_forward hu size _).bind fun _ ht => .ok ht
  · exact .ok hu

theorem contextModes_forward : Forward n (contextModes s) :=
  (allocate_forward h _ _).bind fun t ht =>
    .iterate (fun _ hu => runElement_forward hu _) _ (s := { t with cmode := [] }) ht

theorem distanceParameters_forward : Forward n (distanceParameters s) :=
  (runElement_forward h _).bind fun _ ht => runElement_forward ht _

theorem literalMap_forward : Forward n (literalMap s) := (contextMap_forward h _).bind fun _ ht => .ok ht
theorem distanceMap_forward : Forward n (distanceMap s) := (contextMap_forward h _).bind fun _ ht => .ok ht
theorem literalTree_forward : Forward n (literalTree s) := (readPrefixCode_forward h _).bind fun _ ht => .ok ht
theorem commandTree_forward : Forward n (commandTree s) := (readPrefixCode_forward h _).bind fun _ ht => .ok ht
theorem distanceTree_forward : Forward n (distanceTree s) := (readPrefixCode_forward h _).bind fun _ ht => .ok ht

theorem treeGroups_forward : Forward n (treeGroups s) :=
  (allocate_forward h _ _).bind fun t ht =>
    (Forward.iterate (fun _ => literalTree_forward) _ (s := { t with htreeL := [], htreeI := [], htreeD := [] }) ht).bind
      fun _ hu => (Forward.iterate (fun _ => commandTree_forward) _ hu).bind
      fun _ hv => .iterate (fun _ => distanceTree_forward) _ hv

theorem opSetup_forward : Forward n (opSetup s) :=
  (blockHeader_forward h .L).bind fun _ ha => (blockHeader_forward ha .I).bind fun _ hb =>
    (blockHeader_forward hb .D).bind fun _ hc => (distanceParameters_forward hc).bind fun _ hd =>
    (contextModes_forward hd).bind fun _ he => (literalMap_forward he).bind fun _ hf =>
    (distanceMap_forward hf).bind fun _ hg => (treeGroups_forward hg).bind fun _ hh => .ok hh

theorem opStreamHeader_forward : Forward n (opStreamHeader s) := by
  have hheader : Forward n (opStreamHeader.header s) := by
    unfold opStreamHeader.header
    split
    · exact .ok h
    · exact runElement_forward h _
  unfold opStreamHeader
  split
  · split
    · exact hheader
    · exact .raise h ..
  · exact hheader

theorem opMhdr_forward : Forward n (opMhdr s) := by
  refine (runElement_forward h _).bind fun t ht => ?_
  split
  · exact .ok ht
  refine (runElement_forward ht _).bind fun u hu => ?_
  split
  · exact .ok hu
  refine (Forward.iterate (fun _ hv => runElement_forward hv _) _ hu).bind fun v hv => ?_
  split
  · exact (dispatchBody_forward (s := { v with isUncompressed := false }) hv).bind fun _ ht => .ok ht
  · exact (runElement_forward hv _).bind fun _ ht => .ok ht

theorem skipBytes_forward (m : Nat) : Forward n (skipBytes m s) := by
  unfold skipBytes
  split
  · exact .ok (Nat.le_add_right_of_le h)
  · exact .raise h ..

theorem readBytes_forward (m : Nat) : Forward n (readBytes m s) := by
  unfold readBytes
  split
  · split
    · exact .ok (by simpa using Nat.le_add_right_of_le h)
    · exact .fault _
  · exact .raise h ..

theorem opMetadata_forward : Forward n (opMetadata s) :=
  (runElement_forward h _).bind fun _ ht => (runElement_forward ht _).bind fun _ hu =>
    (Forward.iterate (fun _ hv => runElement_forward hv _) _ hu).bind fun _ hv =>
    (runElement_forward hv _).bind fun _ hw => (skipBytes_forward hw _).bind fun _ hx =>
    (endOfMetaBlock_forward hx).bind fun _ ht => .ok ht

theorem opUncompressed_forward : Forward n (opUncompressed s) :=
  (runElement_forward h _).bind fun _ ht => (readBytes_forward ht _).bind fun u hu =>
    endOfMetaBlock_forward (s := { u with remaining := 0 }) hu

theorem opDist_forward : Forward n (opDist s) := by
  unfold opDist
  split
  · exact .ok h
  · exact (countSymbol_forward h .D).bind fun _ ht => runSymbol_forward ht _ _

theorem copyBackward_forward (d k : Nat) : Forward n (copyBackward d k s) := by
  induction k generalizing s with
  | zero => exact .ok h
  | succ k ih =>
    unfold copyBackward
    split
    · exact ih (s := s.append _) h
    · exact .fault _

theorem opCopy_forward : Forward n (opCopy s) := by
  unfold opCopy
  extract_lets u
  have hu : n ≤ u.bitpos := by unfold u; split <;> exact h
  split
  · exact .raise hu ..
  · exact (copyBackward_forward hu _ _).bind fun v hv =>
      endOfCommand_forward (s := { v with remaining := v.remaining - v.copyLen }) hv

theorem opDict_forward : Forward n (opDict s) := by
  unfold opDict
  split
  · exact .raise h ..
  split
  · exact .raise h ..
  refine (runElement_forward (s := { s with work := { s.work with wordId := (s.distance - s.maxDist - 1).toNat } }) h _).bind
    fun _ hv => (runElement_forward hv _).bind fun w hw => ?_
  dsimp only
  split
  · exact .raise hw ..
  · exact (endOfCommand_forward (by simpa using hw)).bind fun _ ht => .ok ht

/-- No instruction moves the cursor back. -/
theorem effect_forward (i : Instr) : Forward n (effect i s) := by
  unfold effect
  split
  · exact opStreamHeader_forward h
  · exact opMhdr_forward h
  · exact opMetadata_forward h
  · exact opUncompressed_forward h
  · exact opSetup_forward h
  · exact (countSymbol_forward h .I).bind fun _ ht => runSymbol_forward ht _ _
  · exact (countSymbol_forward h .L).bind fun _ ht => runSymbol_forward ht _ _
  · exact opDist_forward h
  · exact opCopy_forward h
  · exact opDict_forward h
  · exact elem_forward h i

end

/-- Settles O15: an instruction that completes stays in its frame and moves the cursor on, and one that raises changes only
the cursor, which it moves on too. -/
theorem inputIsNeverWrittenNorRewound : Obligations.InputIsNeverWrittenNorRewound := by
  intro i s t h
  have hforward := effect_forward (Nat.le_refl s.bitpos) i
  have hrun := effect_runs i s
  obtain ⟨he, hframe⟩ | ⟨k, m, p, he, rfl⟩ := exec_frame h
  · exact ⟨hframe.inp, hframe.dict, hframe.params, hforward.completes t he, fun hs => hrun.cursor hs t he⟩
  · exact ⟨rfl, rfl, rfl, hforward.raises k m p he, fun hs => hrun.raised hs k m p he⟩

end Sys2Proof.Machine
end

section
/-! SUPPORT. Computations that do not fault. Of the shared operations only the codeword of a symbol can be missing; loops keep the
condition under which a turn is safe. -/

namespace Sys2Proof.Machine

/-- The computation completes or raises an error of the block: it neither faults nor refuses. -/
def Safe {α : Type} (r : Res α) : Prop := ∀ e, r = .error e → ∃ k m p, e = .raise k m p

section
variable {α β : Type}

@[simp] theorem safe_ok (a : α) : Safe (.ok a : Res α) := fun _ h => by cases h

@[simp] theorem safe_raise (k : ErrorKind) (m : String) (s : State) : Safe (raise k m s : Res α) := fun _ h => by
  cases h
  exact ⟨k, m, s.bitpos, rfl⟩

@[simp] theorem safe_bind (r : Res α) (f : α → Res β) : Safe (r >>= f) ↔ Safe r ∧ Ensures (fun a => Safe (f a)) r := by
  constructor
  · exact fun h => ⟨fun e he => h e (Res.bind_eq_error.mpr (.inl he)),
      fun a ha e he => h e (Res.bind_eq_error.mpr (.inr ⟨a, ha, he⟩))⟩
  · intro ⟨hr, hf⟩ e he
    obtain he | ⟨a, ha, he⟩ := Res.bind_eq_error.mp he
    · exact hr e he
    · exact hf a ha e he

@[simp] theorem safe_ite (c : Prop) [Decidable c] (r q : Res α) :
    Safe (if c then r else q) ↔ (c → Safe r) ∧ (¬c → Safe q) := by
  split <;> simp [*]

/-- A computation in two parts, the second safe from wherever the first leads. -/
theorem Safe.bind {r : Res α} {f : α → Res β} (h : Safe r) (hf : ∀ a, r = .ok a → Safe (f a)) : Safe (r >>= f) :=
  (safe_bind r f).mpr ⟨h, hf⟩

theorem Safe.of_eq_ok {r : Res α} {a : α} (h : r = .ok a) : Safe r := h ▸ safe_ok a

end

section
variable (s : State)

@[simp] theorem safe_skip (n : Nat) : Safe (skip n s) := by simp [skip]
@[simp] theorem safe_readBits (n : Nat) : Safe (readBits n s) := by simp [readBits]
@[simp] theorem safe_padding (k : PadKind) (n v : Nat) : Safe (padding k n v s) := by simp [padding]
@[simp] theorem safe_allocate (site : AllocSite) (k : ErrorKind) : Safe (allocate site k s) := by simp [allocate]
@[simp] theorem safe_skipBytes (m : Nat) : Safe (skipBytes m s) := by simp [skipBytes]
@[simp] theorem safe_finalPadding : Safe (finalPadding s) := by simp [finalPadding, alignToByte]
@[simp] theorem safe_endOfMetaBlock : Safe (endOfMetaBlock s) := by simp [endOfMetaBlock]
@[simp] theorem safe_postInsert : Safe (postInsert s) := by simp [postInsert]
@[simp] theorem safe_endOfCommand : Safe (endOfCommand s) := by simp [endOfCommand]
@[simp] theorem safe_dispatchBody : Safe (dispatchBody s) := by simp [dispatchBody]

end

/-- A loop whose turns are safe under a condition that they keep. -/
theorem Safe.iterate {P : State → Prop} {f : State → Res State} (hf : ∀ s, P s → Safe (f s) ∧ Ensures P (f s)) (n : Nat)
    {s : State} (hs : P s) : Safe (iterate n f s) := by
  induction n generalizing s with
  | zero => exact safe_ok s
  | succ n ih => exact (hf s hs).1.bind fun t ht => ih ((hf s hs).2 t ht)

/-- A bounded loop whose turns are safe under a condition on the number of turns left. -/
theorem Safe.iterateWhile {P : Nat → State → Prop} {c : State → Bool} {f : State → Res State}
    (hf : ∀ n s, P (n + 1) s → Safe (f s) ∧ Ensures (P n) (f s)) {n : Nat} {s : State} (hs : P n s) :
    Safe (iterateWhile n c f s) := by
  induction n generalizing s with
  | zero => exact safe_ok s
  | succ n ih =>
    unfold Machine.iterateWhile
    split
    · exact (hf n s hs).1.bind fun t ht => ih ((hf n s hs).2 t ht)
    · exact safe_ok s

/-! ### A valid code decodes whatever bits follow -/

/-- The walk keeps its value behind the codewords tried so far; at 15 bits these have taken the whole code space
(41_prefix_codes.md R117, R123). -/
theorem walkCode_complete {T : PrefixCode} (h15 : ∀ l ∈ T, l ≤ 15) (hkraft : kraft T = 32768) {fuel l c : Nat} (bits : Bits)
    (hfuel : l + fuel = 15) (hc : c < 2 ^ l) (hfirst : firstCode T (l + 1) ≤ 2 * c) :
    (∃ p, walkCode T fuel l c bits = .ok p) ∨ ∃ used, walkCode T fuel l c bits = .error (.endOfInput used) := by
  induction fuel generalizing l c bits with
  | zero =>
    obtain rfl : l = 15 := hfuel
    have hall : kraftUpTo 15 T = kraft T :=
      congrArg List.sum (List.map_congr_left fun x hx => by rw [if_pos (h15 x hx)]; rfl)
    have hfull := firstCode_kraft T (l := 15) (by decide) le_rfl
    rw [hall, hkraft] at hfull
    rw [firstCode_succ T (by decide)] at hfirst
    omega
  | succ fuel ih =>
    cases bits with
    | nil => exact .inr ⟨l, rfl⟩
    | cons b bs =>
      have hb := Bool.toNat_lt b
      unfold walkCode
      split
      · exact .inl ⟨_, rfl⟩
      · rename_i hnone
        refine ih bs (by omega) (by rw [Nat.pow_succ]; omega) ?_
        rw [symbolAt, if_pos (by omega), List.getElem?_eq_none_iff, positionsOf_length] at hnone
        rw [firstCode_succ T (by omega)]
        omega

/-- Under a valid code the bits that follow spell a symbol, unless the input ends (41_prefix_codes.md R118, R123). -/
theorem decodeSymbol_complete {A : Nat} {T : PrefixCode} (h : validCode A T = true) (bits : Bits) :
    (∃ p, decodeSymbol T bits = .ok p) ∨ ∃ used, decodeSymbol T bits = .error (.endOfInput used) := by
  obtain ⟨-, h15, hspace⟩ := validCode_iff.mp h
  unfold decodeSymbol
  cases hone : oneSymbol T with
  | some v => exact .inl ⟨_, rfl⟩
  | none =>
    have hkraft : kraft T = 32768 := hspace.resolve_left (by simp [hone])
    exact walkCode_complete h15 hkraft bits rfl (by decide) (by simp [firstCode])

end Sys2Proof.Machine
end

section
/-! SUPPORT. Reading an element does not fault: the rows of a field whatever the state, and the symbols of an alphabet where the
code in force is valid (41_prefix_codes.md R118, R123). -/

namespace Sys2Proof.Machine

/-! ### Fields -/

/-- A field is one of its rows, or meets the end of the input. -/
theorem runField_row (f : Field) (s : State) :
    (∃ r ∈ fieldRows f, ∃ x, runElement (.field f) s = elem (r.instr x) s) ∨
      ∃ p, runElement (.field f) s = .error (.raise .invalidArguments "read past end of input" p) := by
  have hshort {used : Nat} (h : decodeField f s.window = .error (.endOfInput used)) :
      ∃ p, runElement (.field f) s = .error (.raise .invalidArguments "read past end of input" p) :=
    ⟨_, runElement_short h⟩
  cases hfind : (fieldRows f).find? (fun r => r.fixed.isPrefixOf s.window) with
  | none => exact .inr (hshort (by rw [decodeField, hfind]))
  | some r =>
    by_cases hlt : s.window.length < r.fixed.length + r.width
    · exact .inr (hshort (by rw [decodeField, hfind]; exact if_pos hlt))
    · exact .inl ⟨r, List.mem_of_find?_eq_some hfind, _,
        runElement_eq (c := .field f) (by rw [decode, decodeField, hfind]; exact if_neg hlt)⟩

theorem runField_safe {f : Field} {s : State} (h : ∀ r ∈ fieldRows f, ∀ x, Safe (elem (r.instr x) s)) :
    Safe (runElement (.field f) s) := by
  obtain ⟨r, hr, x, he⟩ | ⟨p, he⟩ := runField_row f s
  · exact he ▸ h r hr x
  · intro e hfail
    cases he.symm.trans hfail
    exact ⟨_, _, p, rfl⟩

/-- The rows of a field that only read bits and write registers. -/
theorem skip_ok_safe (n : Nat) (g : State → State) (s : State) : Safe (skip n s >>= fun t => .ok (g t)) := by simp

theorem lengthNibble_safe (x : Nat) (s : State) : Safe (lengthNibble x s) := by simp [lengthNibble]
theorem skipLengthByte_safe (b : Nat) (s : State) : Safe (skipLengthByte b s) := by simp [skipLengthByte]
theorem simpleSymbol_safe (s : State) : Safe (simpleSymbol s) := by simp [simpleSymbol]

theorem simpleSymbols_safe (n : Nat) (s : State) : Safe (simpleSymbols n s) := by
  have hloop (t : State) : Safe (iterate n simpleSymbol t) :=
    .iterate (P := fun _ => True) (fun u _ => ⟨simpleSymbol_safe u, ensures_true _⟩) n trivial
  simp [simpleSymbols, hloop]

/-- Every field reads safely but the window size, which may refuse, and a code-length-code length, which has its place in an
order. -/
theorem field_safe {f : Field} (hw : f ≠ .wbits) (hc : f ≠ .clcl) (s : State) : Safe (runElement (.field f) s) := by
  refine runField_safe ?_
  cases f with
  | wbits => exact absurd rfl hw
  | clcl => exact absurd rfl hc
  | mlen =>
    simp only [fieldRows, wide, List.forall_mem_singleton]
    exact fun x => lengthNibble_safe x s
  | mskiplen =>
    simp only [fieldRows, wide, List.forall_mem_singleton]
    exact fun x => skipLengthByte_safe x s
  | mhdr =>
    simp only [fieldRows, bare, List.forall_mem_cons, List.not_mem_nil, IsEmpty.forall_iff, implies_true, and_true]
    refine ⟨fun _ => ?_, fun _ => skip_ok_safe 2 _ s, fun _ => skip_ok_safe 1 _ s⟩
    show Safe (lastEmptyHeader s)
    simp [lastEmptyHeader]
  | isUncompressed =>
    simp only [fieldRows, bare, List.forall_mem_cons, List.not_mem_nil, IsEmpty.forall_iff, implies_true, and_true]
    have hflag (b : Bool) : Safe (uncompressedFlag b s) := by simp [uncompressedFlag]
    exact ⟨fun _ => hflag false, fun _ => hflag true⟩
  | reserved =>
    simp only [fieldRows, bare, List.forall_mem_cons, List.not_mem_nil, IsEmpty.forall_iff, implies_true, and_true]
    refine ⟨fun _ => safe_skip s 1, fun _ => ?_⟩
    show Safe (reservedBitSet s)
    simp [reservedBitSet]
  | imtf =>
    simp only [fieldRows, bare, List.forall_mem_cons, List.not_mem_nil, IsEmpty.forall_iff, implies_true, and_true]
    exact ⟨fun _ => safe_skip s 1, fun _ => skip_ok_safe 1 _ s⟩
  | nsym =>
    simp only [fieldRows, bare, List.forall_mem_cons, List.not_mem_nil, IsEmpty.forall_iff, implies_true, and_true]
    exact ⟨fun _ => simpleSymbols_safe 1 s, fun _ => simpleSymbols_safe 2 s, fun _ => simpleSymbols_safe 3 s,
      fun _ => simpleSymbols_safe 4 s⟩
  | mnibbles | mskipbytes | varlen | npostfix | ndirect | cmode | rlemax | hskip | treeSelect =>
    simp only [fieldRows, bare, wide, List.forall_mem_cons, List.not_mem_nil, IsEmpty.forall_iff, implies_true, and_true]
    and_intros <;> exact fun _ => skip_ok_safe _ _ s

theorem runPadding_safe (k : PadKind) (n : Nat) (s : State) : Safe (runElement (.padding k n) s) := by
  unfold runElement
  simp only [decode]
  split
  · rename_i hd
    split at hd <;> cases hd
    exact safe_padding s k n _
  · simp [Safe]
  all_goals
    rename_i hd
    split at hd <;> cases hd

/-! ### Symbols -/

/-- The code in force for the next symbol of an alphabet. -/
def State.codeOf (s : State) (a : Alphabet) : Option PrefixCode :=
  match a with
  | .codeLength => some s.work.cl
  | .blockType c => some (s.tracker c).htreeBtype
  | .blockCount c => some (s.tracker c).htreeBlen
  | .contextMap _ => some s.work.lens
  | .literal => s.literalCode
  | .command => s.commandCode
  | .distance _ => s.distanceCode

/-- The size of the largest alphabet of a kind (00_scope.md R9). -/
def alphabetBound (a : Alphabet) : Nat :=
  match a with
  | .codeLength => 18
  | .blockType _ => 258
  | .blockCount _ => 26
  | .contextMap _ => 272
  | .literal => 256
  | .command => 704
  | .distance _ => 520

theorem symbolRow_isSome {a : Alphabet} {v : Nat} (h : v < alphabetBound a) : (symbolRow a v).isSome = true := by
  unfold alphabetBound at h
  unfold symbolRow
  cases a with
  | codeLength => simpa [codeLengthRows] using h
  | blockCount c => simpa [blockCountRows] using h
  | literal => simpa using h
  | command =>
    have hcell : v / 64 < 11 := by dsimp only at h; omega
    simpa [commandRows] using hcell
  | blockType | contextMap =>
    dsimp only at h ⊢
    grind
  | distance =>
    dsimp only at h ⊢
    split_ifs with h16
    · simpa [shortDistanceRows] using h16
    all_goals grind

theorem consume_safe {T : PrefixCode} {v : Nat} (h : (codeword T v).isSome = true) (s : State) :
    Safe (consume (some T) v s) := by
  obtain ⟨⟨l, c⟩, hc⟩ := Option.isSome_iff_exists.mp h
  simp [consume, hc]

theorem repeatLength_safe (newLen eb : Nat) (s : State) : Safe (repeatLength newLen eb s) := by simp [repeatLength_eq]

/-- The effect of a symbol that has a codeword in the code in force. -/
theorem symbolEffect_safe {a : Alphabet} {T : PrefixCode} {v : Nat} {s : State} (hT : s.codeOf a = some T)
    (hv : (codeword T v).isSome = true) (hbound : v < alphabetBound a) : Safe (symbolEffect a v s) := by
  have hconsume := consume_safe hv s
  rw [← hT] at hconsume
  cases a with
  | codeLength =>
    simp only [symbolEffect]
    split
    · exact hconsume.bind fun t _ => safe_ok _
    split
    · subst v
      exact hconsume.bind fun t _ => repeatLength_safe _ _ t
    · obtain rfl : v = 17 := by simp only [alphabetBound] at hbound; omega
      exact hconsume.bind fun t _ => repeatLength_safe _ _ t
  | blockType c => exact hconsume.bind fun t _ => safe_ok _
  | blockCount c => exact hconsume.bind fun t _ => by simp
  | contextMap r =>
    simp only [symbolEffect]
    split
    · subst v
      exact hconsume.bind fun t _ => safe_ok _
    split
    · exact hconsume.bind fun t _ => by simp
    · exact hconsume.bind fun t _ => safe_ok _
  | literal =>
    have hb : (BitVec.ofNat 8 v).toNat = v := Nat.mod_eq_of_lt hbound
    simp only [symbolEffect, literal, hb]
    exact hconsume.bind fun t _ => by simp
  | command => exact hconsume.bind fun t _ => by simp [insertLength, copyLength]
  | distance d =>
    simp only [symbolEffect]
    split
    · exact hconsume.bind fun t _ => by simp
    split
    · exact hconsume.bind fun t _ => safe_ok _
    · exact hconsume.bind fun t _ => by simp

/-- A symbol that is read under a valid code has a row and a codeword (41_prefix_codes.md R118, R123). -/
theorem runSymbol_safe {a : Alphabet} {A : Nat} {T : PrefixCode} {s : State} (hT : s.codeOf a = some T)
    (hvalid : validCode A T = true) (hA : A ≤ alphabetBound a) : Safe (runSymbol a (s.codeOf a) s) := by
  have hlength := (validCode_iff.mp hvalid).1
  rw [hT]
  show Safe (runElement (.symbol a T) s)
  obtain ⟨⟨v, n⟩, hd⟩ | ⟨used, hd⟩ := decodeSymbol_complete hvalid s.window
  · have hbound : v < alphabetBound a := (hlength ▸ decodeSymbol_lt hd).trans_le hA
    obtain ⟨c, hc⟩ := codeword_of_decodeSymbol hd
    have heffect := symbolEffect_safe hT (by simp [hc]) hbound
    rwa [← runSymbol_decoded hd (symbolRow_isSome hbound)] at heffect
  · rw [runElement_short (used := used) (by simp [decode, hd])]
    simp [Safe]

end Sys2Proof.Machine
end

section
/-! SUPPORT. Reading a code does not fault: the code-length code has a place for every length that is read, and one that
passes its check is valid (41_prefix_codes.md R104 to R117). -/

namespace Sys2Proof.Machine

/-! ### The code-length code -/

theorem length_usedSymbols (T : List Nat) (i : Nat) : (usedSymbols T i).length = T.countP (· ≠ 0) := by
  induction T generalizing i with
  | nil => rfl
  | cons x xs ih =>
    unfold usedSymbols
    by_cases h : x = 0 <;> simpa [h] using ih (i + 1)

/-- A code with one used symbol is degenerate (41_prefix_codes.md R124). -/
theorem oneSymbol_isSome {T : PrefixCode} (h : T.countP (· ≠ 0) = 1) : (oneSymbol T).isSome = true := by
  rw [← length_usedSymbols T 0] at h
  obtain ⟨v, hv⟩ := List.length_eq_one_iff.mp h
  simp [oneSymbol, hv]

/-- The workspace holds a code-length code of which the lengths before `index` are read: the rest is 0, the non-zero ones are
counted, and the space left is what they do not take (41_prefix_codes.md R108). -/
structure Work.ReadsCl (w : Work) : Prop where
  length : w.cl.length = 18
  small : ∀ l ∈ w.cl, l ≤ 15
  rest : ∀ sym ∈ codeLengthOrder.drop w.index, w.cl[sym]? = some 0
  num : w.num = w.cl.countP (· ≠ 0)
  space : 1024 * w.space = 32768 - (kraft w.cl : Int)

theorem Work.ReadsCl.codeLength {w : Work} (h : w.ReadsCl) {sym v : Nat} (hsym : codeLengthOrder[w.index]? = some sym)
    (h5 : v ≤ 5) : (w.codeLength sym v).ReadsCl := by
  obtain ⟨hindex, rfl⟩ := List.getElem?_eq_some_iff.mp hsym
  have hdrop := List.drop_eq_getElem_cons hindex
  have hfree := h.rest _ (hdrop ▸ List.mem_cons_self)
  obtain ⟨hlt, hzero⟩ := List.getElem?_eq_some_iff.mp hfree
  have hdistinct : codeLengthOrder[w.index] ∉ codeLengthOrder.drop (w.index + 1) := by
    have hnodup : (codeLengthOrder.drop w.index).Nodup := List.Nodup.sublist (List.drop_sublist _ _) (by decide)
    rw [hdrop] at hnodup
    exact (List.nodup_cons.mp hnodup).1
  have hshare : ∀ v ≤ 5, kraftOf v = 1024 * shareOf v := by decide
  rw [Work.codeLength_eq]
  refine ⟨by simpa using h.length, fun l hl => ?_, fun sym hmem => ?_, ?_, ?_⟩
  · obtain hl | rfl := List.mem_or_eq_of_mem_set hl
    · exact h.small l hl
    · omega
  · have hne : codeLengthOrder[w.index] ≠ sym := fun he => hdistinct (he ▸ hmem)
    rw [List.getElem?_set_ne hne]
    exact h.rest sym (hdrop ▸ List.mem_cons_of_mem _ hmem)
  · rw [List.countP_set hlt, hzero, ← h.num]
    by_cases hv : v = 0 <;> simp [hv]
  · dsimp only
    rw [kraft_set v hfree, hshare v h5]
    have := h.space
    push_cast
    omega

/-- A code-length code that passes its check is valid (41_prefix_codes.md R109). -/
theorem Work.ReadsCl.valid {w : Work} (h : w.ReadsCl) (hcheck : w.num = 1 ∨ w.space = 0) : validCode 18 w.cl = true := by
  refine validCode_iff.mpr ⟨h.length, h.small, hcheck.imp (fun hn => oneSymbol_isSome (h.num ▸ hn)) fun hs => ?_⟩
  have := h.space
  omega

/-- What holds of every code-length-code length holds of the field's rows. -/
theorem clcl_rows {P : Res State → Prop} {s : State} (h : ∀ n v, v ≤ 5 → P (codeLengthLength n v s)) :
    ∀ r ∈ fieldRows .clcl, ∀ x, P (elem (r.instr x) s) := by
  simp only [fieldRows, bare, List.forall_mem_cons, List.not_mem_nil, IsEmpty.forall_iff, implies_true, and_true]
  exact ⟨fun _ => h 2 0 (by decide), fun _ => h 2 3 (by decide), fun _ => h 2 4 (by decide), fun _ => h 3 2 (by decide),
    fun _ => h 4 1 (by decide), fun _ => h 4 5 (by decide)⟩

theorem clcl_readsCl {s : State} (h : s.work.ReadsCl) :
    Ensures (fun t => t.work.ReadsCl) (runElement (.field .clcl) s) := by
  refine ensures_runField fun r hr x _ => clcl_rows (fun n v h5 => ?_) r hr x
  simp only [codeLengthLength_eq, ensures_bind, ensures_skip, State.advance_work]
  intro _
  split
  · exact ensures_error _
  · exact (ensures_ok _).mpr (h.codeLength ‹_› h5)

/-- While the order has a place left, a length is read safely and takes it. -/
theorem clcl_safe {s : State} (h : s.work.index < 18) : Safe (runElement (.field .clcl) s) ∧
    Ensures (fun t => t.work.index = s.work.index + 1) (runElement (.field .clcl) s) := by
  have hplace : codeLengthOrder[s.work.index]? = some codeLengthOrder[s.work.index] := List.getElem?_eq_getElem h
  have hrow (n v : Nat) : Safe (codeLengthLength n v s) ∧
      Ensures (fun t => t.work.index = s.work.index + 1) (codeLengthLength n v s) := by
    simp [codeLengthLength_eq, hplace, Work.codeLength_eq]
  exact ⟨runField_safe (clcl_rows fun n v _ => (hrow n v).1),
    ensures_runField fun r hr x _ => clcl_rows (fun n v _ => (hrow n v).2) r hr x⟩

/-- A complex code starts with an empty code-length code (41_prefix_codes.md R108). -/
theorem hskip_readsCl (s : State) : Ensures (fun t => t.work.hskip ≠ 1 →
    t.work.ReadsCl ∧ t.work.index = t.work.hskip ∧ t.work.hskip ≤ 18) (runElement (.field .hskip) s) := by
  have hempty (k : Nat) : ∀ sym ∈ codeLengthOrder.drop k, (List.replicate 18 0)[sym]? = some 0 := fun sym hsym =>
    (by decide : ∀ sym ∈ codeLengthOrder, (List.replicate 18 0)[sym]? = some 0) sym (List.mem_of_mem_drop hsym)
  have hcomplex (k : Nat) (hk : k ≤ 18) : Ensures (fun t => t.work.hskip ≠ 1 →
      t.work.ReadsCl ∧ t.work.index = t.work.hskip ∧ t.work.hskip ≤ 18) (startComplex k s) := by
    simp only [startComplex, ensures_bind, ensures_skip, Res.pure_eq, ensures_ok, true_and]
    exact fun _ _ => ⟨⟨by simp, by simp, hempty k, by simp, by rw [kraft_replicate]; simp⟩, hk⟩
  have hsimple : Ensures (fun t => t.work.hskip ≠ 1 →
      t.work.ReadsCl ∧ t.work.index = t.work.hskip ∧ t.work.hskip ≤ 18) (startSimple s) := by simp [startSimple]
  refine ensures_runField ?_
  simp only [fieldRows, bare, List.forall_mem_cons, List.not_mem_nil, IsEmpty.forall_iff, implies_true, and_true]
  exact ⟨fun _ _ => hcomplex 0 (by decide), fun _ _ => hsimple, fun _ _ => hcomplex 2 (by decide),
    fun _ _ => hcomplex 3 (by decide)⟩

/-! ### The whole code -/

/-- The code-length symbols leave the code-length code as it is. -/
theorem codeLength_keeps_cl (v : Nat) (s : State) :
    Ensures (fun t => t.work.cl = s.work.cl) (symbolEffect .codeLength v s) := by
  have hrepeat (newLen eb l : Nat) : Ensures (fun t => t.work.cl = s.work.cl) (repeatLength newLen eb (s.advance l)) := by
    simp [repeatLength_eq]
  simp only [symbolEffect]
  split
  · simp [literalLength_eq]
  split
  · simp [repeatPrevious, hrepeat]
  · simp [repeatZero, hrepeat]

theorem readSimple_safe (s : State) : Safe (readSimple s) := by
  refine (field_safe (f := .nsym) (by decide) (by decide) s).bind fun t _ => ?_
  split
  · exact field_safe (f := .treeSelect) (by decide) (by decide) t
  · exact safe_ok t

theorem readComplex_safe {s : State} (h : s.work.ReadsCl) (hindex : s.work.index = s.work.hskip) (h18 : s.work.hskip ≤ 18) :
    Safe (readComplex s) := by
  have hlengths : Safe (iterateWhile (18 - s.work.hskip) (fun t => decide (0 < t.work.space)) (runElement (.field .clcl)) s) := by
    refine .iterateWhile (P := fun n t => t.work.index + n ≤ 18) (fun n t ht => ?_) (by omega)
    obtain ⟨hsafe, hnext⟩ := clcl_safe (s := t) (by omega)
    exact ⟨hsafe, hnext.mono fun u hu => by omega⟩
  refine hlengths.bind fun t ht => Safe.bind (by simp [checkCodeLengths]) fun u hu => ?_
  have hcl : t.work.ReadsCl := Ensures.iterateWhile (fun v _ => clcl_readsCl) _ h t ht
  have hvalid : validCode 18 u.work.cl = true := by
    have hcheck : Ensures (fun u => validCode 18 u.work.cl = true) (checkCodeLengths t) := by
      simpa [checkCodeLengths] using hcl.valid
    exact hcheck u hu
  have hsymbols : Safe (iterateWhile u.work.alphabet (fun t => decide (t.work.symbol < t.work.alphabet ∧ 0 < t.work.space))
      (fun t => runSymbol .codeLength (some t.work.cl) t) u) := by
    refine .iterateWhile (P := fun _ v => v.work.cl = u.work.cl) (fun _ v hv => ⟨?_, ?_⟩) rfl
    · exact runSymbol_safe (a := .codeLength) rfl (hv ▸ hvalid) le_rfl
    · exact ensures_runCode fun _ _ x _ _ => (codeLength_keeps_cl x v).mono fun w hw => hw.trans hv
  exact hsymbols.bind fun v _ => by simp [checkSpace]

/-- A code of any alphabet is read safely. -/
theorem readPrefixCode_safe (A : Nat) (s : State) : Safe (readPrefixCode A s) := by
  refine (field_safe (f := .hskip) (by decide) (by decide) _).bind fun t ht => ?_
  split
  · exact readSimple_safe t
  · obtain ⟨hcl, hindex, h18⟩ := hskip_readsCl _ t ht ‹_›
    exact readComplex_safe hcl hindex h18

end Sys2Proof.Machine
end

section
/-! SUPPORT. The operations up to SETUP do not fault: their fields read safely, the bytes they copy are in the input, and every
code is read before the symbols that need it (42_metablock.md R128 to R158). -/

namespace Sys2Proof.Machine

/-! ### Block switches -/

/-- A block count is read safely under a valid code (42_metablock.md R144). -/
theorem readBlockCount_safe {c : Category} {s : State} (h : validCode 26 (s.tracker c).htreeBlen = true) :
    Safe (readBlockCount c s) := runSymbol_safe (a := .blockCount c) rfl h le_rfl

theorem blockSwitch_safe {c : Category} {s : State} (h : (s.tracker c).valid = true) (h2 : 2 ≤ (s.tracker c).nbltypes) :
    Safe (blockSwitch c s) := by
  obtain ⟨-, h256, -, hmany⟩ := (s.tracker c).valid_iff.mp h
  obtain ⟨-, htypes, hcounts⟩ := hmany h2
  have hkeeps : Ensures (fun t => (t.tracker c).htreeBlen = (s.tracker c).htreeBlen)
      (runSymbol (.blockType c) (some (s.tracker c).htreeBtype) s) :=
    ensures_runCode fun _ _ v _ _ => by simp [symbolEffect, switchType]
  have htype := runSymbol_safe (a := .blockType c) rfl htypes (by simp only [alphabetBound]; omega)
  exact htype.bind fun t ht => readBlockCount_safe (hkeeps t ht ▸ hcounts)

/-- What comes before a symbol is safe under a valid tracker (43_command_loop.md R162, R163). -/
theorem countSymbol_safe {c : Category} {s : State} (h : (s.tracker c).valid = true) : Safe (countSymbol c s) := by
  unfold countSymbol
  split
  · split
    · exact (blockSwitch_safe h ‹_›).bind fun t _ => safe_ok _
    · exact safe_ok _
  · exact safe_ok s

/-! ### SETUP -/

theorem blockCodes_safe (c : Category) (n : Nat) (s : State) : Safe (blockCodes c n s) := by
  refine (safe_allocate s _ _).bind fun t _ => (readPrefixCode_safe _ t).bind fun u _ =>
    (readPrefixCode_safe 26 _).bind fun v hv => readBlockCount_safe ?_
  rw [State.tracker_setTracker]
  exact readPrefixCode_valid 26 _ v hv

theorem blockHeader_safe (c : Category) (s : State) : Safe (blockHeader c s) := by
  rw [blockHeader_eq]
  refine (field_safe (f := .varlen) (by decide) (by decide) s).bind fun t _ => ?_
  split
  · exact blockCodes_safe c _ _
  · exact safe_ok _

/-- RLEMAX is at most 16 (42_metablock.md R148). -/
theorem rlemax_spec (s : State) : Ensures (fun t => t.work.rlemax ≤ 16) (runElement (.field .rlemax) s) := by
  have hrow (n r : Nat) (hr : r ≤ 16) : Ensures (fun t => t.work.rlemax ≤ 16) (setRlemax n r s) := by simp [setRlemax, hr]
  refine ensures_runField ?_
  simp only [fieldRows, bare, wide, List.forall_mem_cons, List.not_mem_nil, IsEmpty.forall_iff, implies_true, and_true]
  exact ⟨fun _ _ => hrow 1 0 (by decide), fun x hx => hrow 5 (x + 1) (by omega)⟩

/-- Context-map symbols leave their code as it is. -/
theorem contextMapSymbol_keeps_code (r v : Nat) (s : State) :
    Ensures (fun t => t.work.lens = s.work.lens) (symbolEffect (.contextMap r) v s) := by
  simp only [symbolEffect]
  split
  · simp [mapZero]
  split
  · simp [mapRun]
  · simp [mapValue]

theorem readContextMap_safe (size : Nat) {n : Nat} (h256 : n ≤ 256) (s : State) : Safe (readContextMap size n s) := by
  refine (field_safe (f := .rlemax) (by decide) (by decide) s).bind fun t ht => (readPrefixCode_safe _ t).bind fun u hu => ?_
  have hrlemax : t.work.rlemax ≤ 16 := rlemax_spec s t ht
  have hvalid : validCode (n + t.work.rlemax) u.work.lens = true := readPrefixCode_valid _ t u hu
  refine Safe.bind (.iterateWhile (P := fun _ v => v.work.lens = u.work.lens) (fun _ v hv => ⟨?_, ?_⟩) rfl) fun v _ =>
    field_safe (f := .imtf) (by decide) (by decide) v
  · exact runSymbol_safe (a := .contextMap _) rfl (hv ▸ hvalid) (by simp only [alphabetBound]; omega)
  · exact ensures_runCode fun _ _ x _ _ => (contextMapSymbol_keeps_code _ x v).mono fun w hw => hw.trans hv

theorem contextMap_safe (size : Nat) (s : State) : Safe (contextMap size s) := by
  refine (field_safe (f := .varlen) (by decide) (by decide) s).bind fun t ht => (safe_allocate t _ _).bind fun u hu => ?_
  obtain ⟨-, rfl⟩ := allocate_ok hu
  have hcount := varlen_count s u ht
  split
  · exact (readContextMap_safe size (by omega) u).bind fun v _ => safe_ok _
  · exact safe_ok _

theorem contextModes_safe (s : State) : Safe (contextModes s) :=
  (safe_allocate s _ _).bind fun _ _ => .iterate (P := fun _ => True)
    (fun t _ => ⟨field_safe (f := .cmode) (by decide) (by decide) t, ensures_true _⟩) _ trivial

theorem treeGroups_safe (s : State) : Safe (treeGroups s) := by
  have htree (A : Nat) (g : State → State) (t : State) : Safe (readPrefixCode A t >>= fun u => .ok (g u)) :=
    (readPrefixCode_safe A t).bind fun u _ => safe_ok _
  have hloop (n : Nat) (f : State → Res State) (hf : ∀ t, Safe (f t)) (t : State) : Safe (iterate n f t) :=
    .iterate (P := fun _ => True) (fun u _ => ⟨hf u, ensures_true _⟩) n trivial
  exact (safe_allocate s _ _).bind fun t _ => (hloop _ literalTree (htree _ _) _).bind fun u _ =>
    (hloop _ commandTree (htree _ _) u).bind fun v _ => hloop _ distanceTree (fun w => htree _ _ w) v

/-- SETUP never faults: it reads every code that its symbols need. -/
theorem opSetup_safe (s : State) : Safe (opSetup s) :=
  (blockHeader_safe .L s).bind fun a _ => (blockHeader_safe .I a).bind fun b _ => (blockHeader_safe .D b).bind fun c _ =>
    Safe.bind ((field_safe (f := .npostfix) (by decide) (by decide) c).bind fun t _ =>
      field_safe (f := .ndirect) (by decide) (by decide) t) fun d _ =>
    (contextModes_safe d).bind fun e _ => Safe.bind ((contextMap_safe _ e).bind fun t _ => safe_ok _) fun f _ =>
    Safe.bind ((contextMap_safe _ f).bind fun t _ => safe_ok _) fun g _ => (treeGroups_safe g).bind fun h _ => safe_ok _

/-! ### Headers and bodies -/

/-- The computation does not fault, and refuses a large-window stream only where LARGE_WINDOW is true (42_metablock.md R131). -/
def SafeOrLarge (s : State) (r : Res State) : Prop :=
  Safe r ∨ (r = .error (.refuse .largeWindow) ∧ s.params.largeWindow = true)

theorem largeWindow_safeOrLarge (n : Nat) (s : State) : SafeOrLarge s (largeWindow n s) := by
  cases hskip : skip n s with
  | error e =>
    refine .inl ((safe_bind _ _).mpr ⟨safe_skip s n, fun t ht => ?_⟩)
    cases ht.symm.trans hskip
  | ok t =>
    have hparams : t.params = s.params := by rw [(skip_ok hskip).2]; rfl
    by_cases hlarge : s.params.largeWindow = true
    · exact .inr ⟨by rw [largeWindow, hskip, Res.ok_bind, hparams, if_pos hlarge], hlarge⟩
    · refine .inl ?_
      rw [largeWindow, hskip, Res.ok_bind, hparams, if_neg hlarge]
      exact safe_raise _ _ t

theorem wbits_safeOrLarge (s : State) : SafeOrLarge s (runElement (.field .wbits) s) := by
  have hwindow (n w : Nat) : SafeOrLarge s (setWindow n w s) := .inl (skip_ok_safe n _ s)
  have hrows : ∀ r ∈ fieldRows .wbits, ∀ x, SafeOrLarge s (elem (r.instr x) s) := by
    simp only [fieldRows, bare, List.forall_mem_cons, List.not_mem_nil, IsEmpty.forall_iff, implies_true, and_true]
    exact ⟨fun _ => hwindow 1 16, fun _ => hwindow 4 18, fun _ => hwindow 4 19, fun _ => hwindow 4 20,
      fun _ => hwindow 4 21, fun _ => hwindow 4 22, fun _ => hwindow 4 23, fun _ => hwindow 4 24, fun _ => hwindow 7 17,
      fun _ => largeWindow_safeOrLarge 7 s, fun _ => hwindow 7 10, fun _ => hwindow 7 11, fun _ => hwindow 7 12,
      fun _ => hwindow 7 13, fun _ => hwindow 7 14, fun _ => hwindow 7 15⟩
  obtain ⟨r, hr, x, he⟩ | ⟨p, he⟩ := runField_row .wbits s
  · exact he ▸ hrows r hr x
  · refine .inl fun e hfail => ?_
    cases he.symm.trans hfail
    exact ⟨_, _, p, rfl⟩

theorem opStreamHeader_safeOrLarge (s : State) : SafeOrLarge s (opStreamHeader s) := by
  have hheader : SafeOrLarge s (opStreamHeader.header s) := by
    unfold opStreamHeader.header
    split
    · exact .inl (safe_ok _)
    · exact wbits_safeOrLarge s
  unfold opStreamHeader
  split
  · split
    · exact hheader
    · exact .inl (safe_raise _ _ s)
  · exact hheader

theorem opMhdr_safe (s : State) : Safe (opMhdr s) := by
  refine (field_safe (f := .mhdr) (by decide) (by decide) s).bind fun t _ => ?_
  split
  · exact safe_ok t
  refine (field_safe (f := .mnibbles) (by decide) (by decide) t).bind fun u _ => ?_
  split
  · exact safe_ok u
  refine Safe.bind (.iterate (P := fun _ => True)
    (fun v _ => ⟨field_safe (f := .mlen) (by decide) (by decide) v, ensures_true _⟩) _ trivial) fun v _ => ?_
  split
  · exact (safe_dispatchBody _).bind fun w _ => safe_ok _
  · exact (field_safe (f := .isUncompressed) (by decide) (by decide) v).bind fun w _ => safe_ok _

theorem opMetadata_safe (s : State) : Safe (opMetadata s) :=
  (field_safe (f := .reserved) (by decide) (by decide) s).bind fun t _ =>
    (field_safe (f := .mskipbytes) (by decide) (by decide) t).bind fun u _ =>
    Safe.bind (.iterate (P := fun _ => True)
      (fun v _ => ⟨field_safe (f := .mskiplen) (by decide) (by decide) v, ensures_true _⟩) _ trivial) fun v _ =>
    (runPadding_safe .interior _ v).bind fun w _ => (safe_skipBytes w _).bind fun x _ => (safe_endOfMetaBlock x).bind
      fun y _ => safe_ok _

/-- The bytes of an uncompressed body that are copied are in the input (40_bitreader.md R99). -/
theorem opUncompressed_safe {s : State} (hwf : s.inp.wf = true) : Safe (opUncompressed s) := by
  refine (runPadding_safe .interior _ s).bind fun t ht => Safe.bind ?_ fun u _ => safe_endOfMetaBlock _
  have hinp : t.inp = s.inp := ((runElement_runs (.padding .interior _) s).frame t ht).inp
  by_cases hfits : t.bitpos / 8 + t.mlen ≤ t.inp.size
  · exact .of_eq_ok (readBytes_eq (hinp ▸ hwf) hfits)
  · rw [readBytes, if_neg hfits]
    exact safe_raise _ _ t

end Sys2Proof.Machine
end

section
/-! SUPPORT. The operations of the command loop do not fault from sound registers: the tables hold a valid code for every symbol
(43_command_loop.md R164, R172, R175), a copy reads the output (R182), and a word lies in the dictionary
(44_dictionary_transforms.md R190 to R195). -/

namespace Sys2Proof.Machine

/-! ### The codes in force -/

theorem validTrees.get {n A : Nat} {trees : List PrefixCode} (h : validTrees n A trees) {i : Nat} (hi : i < n) :
    ∃ T, trees[i]? = some T ∧ validCode A T = true := by
  obtain ⟨hlength, hvalid⟩ := h
  have hi' : i < trees.length := hlength ▸ hi
  exact ⟨trees[i], List.getElem?_eq_getElem hi', hvalid _ (List.getElem_mem hi')⟩

theorem validMap.get {size n : Nat} {map : List Nat} (h : validMap size n map) {i : Nat} (hi : i < size) :
    ∃ x, map[i]? = some x ∧ x < n := by
  obtain ⟨hlength, -, -, hlt⟩ := h
  have hi' : i < map.length := hlength ▸ hi
  exact ⟨map[i], List.getElem?_eq_getElem hi', hlt _ (List.getElem_mem hi')⟩

theorem State.lastByte_lt (s : State) (d : Nat) : s.lastByte d < 256 := by
  unfold State.lastByte
  split
  · split
    · exact BitVec.isLt _
    · decide
  · decide

namespace State.Tables
variable {s : State} (hs : s.Tables)
include hs

theorem btype_lt (c : Category) : (s.tracker c).btype < (s.tracker c).nbltypes := by
  obtain ⟨-, -, hlt, -⟩ := (s.tracker c).valid_iff.mp (hs.trackers c)
  exact hlt

theorem commandCode_valid : ∃ T, s.commandCode = some T ∧ validCode 704 T = true :=
  hs.commandTrees.get (hs.btype_lt .I)

theorem literalCode_valid : ∃ T, s.literalCode = some T ∧ validCode 256 T = true := by
  have hlt : s.trackerL.btype < s.trackerL.nbltypes := hs.btype_lt .L
  have hmode : s.trackerL.btype < s.cmode.length := hs.modes ▸ hlt
  have hctx := contextId_lt s.cmode[s.trackerL.btype] (s.lastByte_lt 1) (s.lastByte_lt 2)
  obtain ⟨tree, htree, hn⟩ := hs.literalMap.get (i := 64 * s.trackerL.btype +
    contextId s.cmode[s.trackerL.btype] (s.lastByte 1) (s.lastByte 2)) (by omega)
  obtain ⟨T, hT, hvalid⟩ := hs.literalTrees.get hn
  exact ⟨T, by simp [State.literalCode, hmode, htree, hT], hvalid⟩

theorem distanceCode_valid (hctx : s.distCtx ≤ 3) :
    ∃ T, s.distanceCode = some T ∧ validCode s.distanceAlphabet T = true := by
  have hlt : s.trackerD.btype < s.trackerD.nbltypes := hs.btype_lt .D
  obtain ⟨tree, htree, hn⟩ := hs.distanceMap.get (i := 4 * s.trackerD.btype + s.distCtx) (by omega)
  obtain ⟨T, hT, hvalid⟩ := hs.distanceTrees.get hn
  exact ⟨T, by simp [State.distanceCode, htree, hT], hvalid⟩

/-- DALPH is at most 520 (00_scope.md R9). -/
theorem distanceAlphabet_le : s.distanceAlphabet ≤ 520 := by
  obtain ⟨hpostfix, hdirect, -⟩ := hs.parameters
  have hpow : 2 ^ s.npostfix ≤ 2 ^ 3 := Nat.pow_le_pow_right (by decide) hpostfix
  rw [State.distanceAlphabet, Nat.shiftLeft_eq]
  omega

/-! ### CMD, LIT and DIST -/

theorem opCmd_safe : Safe (opCmd s) := by
  refine (countSymbol_safe (hs.trackers .I)).bind fun t ht => ?_
  obtain ⟨T, hT, hvalid⟩ := (countSymbol_tables hs .I t ht).1.commandCode_valid
  exact runSymbol_safe (a := .command) hT hvalid le_rfl

theorem opLit_safe : Safe (opLit s) := by
  refine (countSymbol_safe (hs.trackers .L)).bind fun t ht => ?_
  obtain ⟨T, hT, hvalid⟩ := (countSymbol_tables hs .L t ht).1.literalCode_valid
  exact runSymbol_safe (a := .literal) hT hvalid le_rfl

theorem opDist_safe (hctx : s.distCtx ≤ 3) : Safe (opDist s) := by
  unfold opDist
  split
  · exact safe_ok _
  refine (countSymbol_safe (hs.trackers .D)).bind fun t ht => ?_
  obtain ⟨htables, hframe⟩ := countSymbol_tables hs .D t ht
  have hctx' : t.distCtx = s.distCtx := (hframe.same .copyLen (by simp)).2
  obtain ⟨T, hT, hvalid⟩ := htables.distanceCode_valid (hctx' ▸ hctx)
  exact runSymbol_safe (a := .distance t.ndirect) hT hvalid htables.distanceAlphabet_le

end State.Tables

/-! ### COPY -/

theorem copyBackward_safe {d n : Nat} {s : State} (hout : s.out.wf = true) (h1 : 1 ≤ d) (hd : d ≤ s.maxDist) :
    Safe (copyBackward d n s) := by
  obtain ⟨t, ht⟩ := copyBackward_completes hout h1 hd
  exact .of_eq_ok ht

/-- A copy within the maximum backward distance reads the output (20_memory.md R57). -/
theorem opCopy_safe {s : State} (hout : s.out.wf = true) (h1 : 1 ≤ s.distance) (hbeyond : s.beyond = false) :
    Safe (opCopy s) := by
  have hmax : s.distance ≤ s.maxDist := by simpa [State.beyond] using hbeyond
  unfold opCopy
  extract_lets u
  have hu : u.out = s.out ∧ u.maxDist = s.maxDist ∧ u.distance = s.distance := by
    unfold u
    split <;> exact ⟨rfl, rfl, rfl⟩
  obtain ⟨ho, hm, hd⟩ := hu
  split
  · exact safe_raise _ _ u
  · exact (copyBackward_safe (ho ▸ hout) (by omega) (by omega)).bind fun t _ => safe_endOfCommand _

/-! ### DICT -/

theorem State.dictByte_some {s : State} (hs : s.dictReady) {i : Nat} (hi : i < Config.dictSize) :
    ∃ b, s.dictByte i = some b := by
  obtain ⟨havailable, hdict⟩ := hs
  cases hd : s.dict with
  | some d =>
    obtain ⟨hwf, hsize⟩ := hdict d hd
    simpa [State.dictByte, hd] using Memory.read_some hwf (hsize.symm ▸ hi)
  | none =>
    have hbuiltin : s.params.builtinPresent = true := by simpa [State.dictAvailable, hd] using havailable
    exact ⟨Config.builtinDict i, by simp [State.dictByte, hd, hbuiltin, hi]⟩

/-- A read within the dictionary is in it (20_memory.md R59). -/
theorem State.dictRead_some {s : State} (hs : s.dictReady) {off n : Nat} (h : off + n ≤ Config.dictSize) :
    ∃ bs, s.dictRead off n = some bs := by
  induction n generalizing off with
  | zero => exact ⟨[], rfl⟩
  | succ n ih =>
    obtain ⟨b, hb⟩ := State.dictByte_some hs (show off < Config.dictSize by omega)
    obtain ⟨bs, hbs⟩ := ih (off := off + 1) (by omega)
    exact ⟨b :: bs, by simp [State.dictRead, hb, hbs]⟩

/-- Every bucket lies in the dictionary (44_dictionary_transforms.md R192). -/
theorem bucket_le_dictSize : ∀ len < 25, 4 ≤ len → dictOffset len + 2 ^ dictBits len * len ≤ Config.dictSize := by decide

/-- Every word of a bucket lies in the dictionary. -/
theorem word_le_dictSize {len : Nat} (h4 : 4 ≤ len) (h24 : len ≤ 24) (x : Nat) :
    dictOffset len + x % 2 ^ dictBits len * len + len ≤ Config.dictSize := by
  have hword : (x % 2 ^ dictBits len + 1) * len ≤ 2 ^ dictBits len * len :=
    Nat.mul_le_mul_right _ (Nat.mod_lt _ (Nat.two_pow_pos _))
  calc dictOffset len + x % 2 ^ dictBits len * len + len
      = dictOffset len + (x % 2 ^ dictBits len + 1) * len := by rw [Nat.succ_mul, Nat.add_assoc]
    _ ≤ dictOffset len + 2 ^ dictBits len * len := Nat.add_le_add_left hword _
    _ ≤ Config.dictSize := bucket_le_dictSize len (by omega) h4

/-- An entry of a table is its row. -/
theorem runElement_entry {tb : Table} {v : Nat} {i : Instr} (h : entryRow tb v = some i) (s : State) :
    runElement (.entry tb v) s = elem i s :=
  runElement_eq (c := .entry tb v) (n := 0) (by simp [decode, h])

theorem runElement_bucket {len : Nat} (h4 : 4 ≤ len) (h24 : len ≤ 24) (s : State) :
    runElement (.entry .dictBucket len) s = selectWord len s := by
  have hlt : len - 4 < dictBucketRows.length := show len - 4 < 21 by omega
  have hrow : entryRow .dictBucket len = some dictBucketRows[len - 4] := by
    simp [entryRow, Nat.not_lt.mpr h4, hlt]
  rw [runElement_entry hrow,
    of_rows (rows := dictBucketRows) (f := fun k => selectWord (k + 4) s) rfl (List.getElem?_eq_getElem hlt)]
  exact congrArg (selectWord · s) (Nat.sub_add_cancel h4)

theorem runElement_transform {tid : Nat} (h : tid < 121) (s : State) :
    runElement (.entry .transform tid) s = wordTransform tid s := by
  have hlt : tid < transformRows.length := h
  have hrow : entryRow .transform tid = some transformRows[tid] := by simp [entryRow, h, hlt]
  rw [runElement_entry hrow]
  exact of_rows (rows := transformRows) (f := fun v => wordTransform v s) rfl (List.getElem?_eq_getElem hlt)

theorem runBucket_safe {s : State} (hs : s.dictReady) {len : Nat} (h4 : 4 ≤ len) (h24 : len ≤ 24) :
    Safe (runElement (.entry .dictBucket len) s) := by
  obtain ⟨bs, hbs⟩ := State.dictRead_some hs (word_le_dictSize h4 h24 s.work.wordId)
  simp [runElement_bucket h4 h24, selectWord, hbs]

/-- Every transform id below 121 has its transform (44_dictionary_transforms.md R194, R206). -/
theorem runTransform_safe (tid : Nat) (s : State) : Safe (runElement (.entry .transform tid) s) := by
  by_cases h : tid < 121
  · have hlt : tid < transforms.length := h
    rw [runElement_transform h]
    simp [wordTransform, applyTransform, hlt]
  · rw [runElement_entry (i := .transformReserved tid) (by simp [entryRow, h])]
    exact safe_raise _ _ s

theorem opDict_safe {s : State} (hdict : ∀ d, s.dict = some d → d.wf = true ∧ d.size = Config.dictSize) :
    Safe (opDict s) := by
  unfold opDict
  split
  · exact safe_raise _ _ s
  split
  · exact safe_raise _ _ s
  rename_i havailable hlength
  have hready : s.dictReady := ⟨by simpa using havailable, hdict⟩
  have h4 : 4 ≤ s.copyLen := by omega
  have h24 : s.copyLen ≤ 24 := by omega
  refine Safe.bind ?_ fun t _ => (runTransform_safe _ t).bind fun u _ => ?_
  · refine runBucket_safe ?_ h4 h24
    exact hready
  · dsimp only
    split
    · exact safe_raise _ _ u
    · exact (safe_endOfCommand _).bind fun v _ => safe_ok _

end Sys2Proof.Machine
end

section
/-! Obligation O11. A step from a sound state answers a next state, or refuses a large-window stream. -/

namespace Sys2Proof.Machine

/-! ### The enabled operation -/

/-- The enabled operation runs where it is enabled: its meaning delivers its effect. -/
theorem exec_of_operationRow {s : State} {i : Instr} (h : operationRow s.state s.cmdPhase s.beyond = some i) :
    exec i s = deliver s (effect i s) := by
  have hduring {st : DecState} (hst : s.state = st) (r : Res State) : during [st] s r = deliver s r :=
    during_of_mem (by simp [hst]) r
  cases hstate : s.state with
  | commandLoop =>
    cases hphase : s.cmdPhase with
    | copy =>
      cases hbeyond : s.beyond with
      | false =>
        obtain rfl : .copy = i := by simpa [operationRow, hstate, hphase, hbeyond] using h
        exact (if_neg (by simp [hbeyond])).trans (duringPhase_of hstate hphase _)
      | true =>
        obtain rfl : .dict = i := by simpa [operationRow, hstate, hphase, hbeyond] using h
        exact (if_pos hbeyond).trans (duringPhase_of hstate hphase _)
    | cmdBegin | insert | distance =>
      rw [hstate, hphase] at h
      cases h
      exact duringPhase_of hstate hphase _
  | done | error => simp [operationRow, hstate] at h
  | streamHeader | metaBlockHeader | metadata | uncompressedBody | compressedSetup =>
    rw [hstate] at h
    cases h
    exact hduring hstate _

/-- A computation that does not fault delivers a next state. -/
theorem Safe.deliver_next {r : Res State} (h : Safe r) (s : State) : ∃ t, deliver s r = .next t := by
  cases r with
  | ok t => exact ⟨t, rfl⟩
  | error e =>
    obtain ⟨k, m, p, rfl⟩ := h e rfl
    exact ⟨_, rfl⟩

/-! ### From a sound state -/

theorem loop_safe {s : State} (hs : Sound s) (hstate : s.state = .commandLoop) {i : Instr}
    (hi : operationRow s.state s.cmdPhase s.beyond = some i) : Safe (effect i s) := by
  obtain ⟨hc, -, hvalid⟩ := hs.commands hstate
  cases hphase : s.cmdPhase with
  | cmdBegin =>
    obtain rfl : .cmd = i := by simpa [operationRow, hstate, hphase] using hi
    exact hc.tables.opCmd_safe
  | insert =>
    obtain rfl : .lit = i := by simpa [operationRow, hstate, hphase] using hi
    exact hc.tables.opLit_safe
  | distance =>
    obtain rfl : .dist = i := by simpa [operationRow, hstate, hphase] using hi
    obtain ⟨-, hctx⟩ := (State.phaseValid_distance hphase).mp hvalid
    exact hc.tables.opDist_safe hctx
  | copy =>
    cases hbeyond : s.beyond with
    | false =>
      obtain rfl : .copy = i := by simpa [operationRow, hstate, hphase, hbeyond] using hi
      obtain ⟨-, h1, -⟩ := (State.phaseValid_copy hphase).mp hvalid
      exact opCopy_safe hs.outputCanonical h1 hbeyond
    | true =>
      obtain rfl : .dict = i := by simpa [operationRow, hstate, hphase, hbeyond] using hi
      obtain ⟨-, -, hsize⟩ := hs.streamOpen (by simp [hstate]) (by simp [hstate]) (by simp [hstate])
      exact opDict_safe fun d hd => ⟨hs.dictCanonical d hd, hsize d hd⟩

/-- The enabled operation does not fault; STREAM_HEADER alone may refuse. -/
theorem effect_safeOrLarge {s : State} (hs : Sound s) {i : Instr}
    (hi : operationRow s.state s.cmdPhase s.beyond = some i) : SafeOrLarge s (effect i s) := by
  cases hstate : s.state with
  | streamHeader =>
    obtain rfl : .streamHeader = i := by simpa [operationRow, hstate] using hi
    exact opStreamHeader_safeOrLarge s
  | metaBlockHeader =>
    obtain rfl : .mhdr = i := by simpa [operationRow, hstate] using hi
    exact .inl (opMhdr_safe s)
  | metadata =>
    obtain rfl : .metadata = i := by simpa [operationRow, hstate] using hi
    exact .inl (opMetadata_safe s)
  | uncompressedBody =>
    obtain rfl : .uncompressed = i := by simpa [operationRow, hstate] using hi
    exact .inl (opUncompressed_safe hs.inputCanonical)
  | compressedSetup =>
    obtain rfl : .setup = i := by simpa [operationRow, hstate] using hi
    exact .inl (opSetup_safe s)
  | commandLoop => exact .inl (loop_safe hs hstate hi)
  | done | error => simp [operationRow, hstate] at hi

/-- Settles O11: the tables hold a valid code for every symbol that is read, every bucket lies in the dictionary, and a copy
within the maximum backward distance reads the output. -/
theorem soundStatesNeverFault : Obligations.SoundStatesNeverFault := by
  intro s hs
  cases hi : operationRow s.state s.cmdPhase s.beyond with
  | none =>
    obtain hstep | ⟨-, hstep⟩ := step_cases s
    · obtain ⟨i, hfetch, -⟩ := hstep
      cases hi.symm.trans (fetch_operation hfetch)
    · exact .inl ⟨s, hstep⟩
  | some i =>
    rw [step_of_operationRow hi, exec_of_operationRow hi]
    obtain hsafe | ⟨hlarge, hparam⟩ := effect_safeOrLarge hs hi
    · exact .inl (hsafe.deliver_next s)
    · exact .inr ⟨by rw [hlarge]; rfl, hparam⟩

end Sys2Proof.Machine
end

section
/-! SUPPORT. The rows of the opcode table, read both ways: a row found at a place of the grammar is the row that its instruction's
encoding is written from (30_encoding.md R70 to R94). -/

namespace Sys2Proof.Machine

/-- Two values that agree all along a list agree at each of its indices. -/
theorem of_map_eq_range {α β : Type} {f : α → β} {g : Nat → β} {l : List α} (h : l.map f = (List.range l.length).map g) {v : Nat}
    {a : α} (ha : l[v]? = some a) : f a = g v := by
  obtain ⟨hv, rfl⟩ := List.getElem?_eq_some_iff.mp ha
  have hget := congrArg (·[v]?) h
  simpa [hv] using hget

/-! ### Where an instruction stands -/

/-- What an instruction's row says of the places where it stands: the state that enables it, the row of its field, the alphabet of
its symbol, the table of its entry (30_encoding.md R94). -/
def StandsAs (i : Instr) (row : Row) : Prop :=
  match row with
  | .operation => ∃ st ph b, operationRow st ph b = some i
  | .field f fixed w x =>
    ∃ r, (fieldRows f).find? (·.fixed == fixed) = some r ∧ r.fixed = fixed ∧ r.width = w ∧ r.instr x = i
  | .padding k n v => i = .pad k n v
  | .symbol v => i.wellFormed = true → ∃ a, symbolRow a v = some i
  | .entry v => i.wellFormed = true → ∃ t, entryRow t v = some i

/-- The range of an operand is its two bounds. -/
theorem bounds_iff {p q : Prop} [Decidable p] [Decidable q] : (decide p && decide q) = true ↔ p ∧ q := by simp

/-- A command symbol is well formed in its own cell (30_encoding.md R81). -/
theorem wellFormed_commandRow {k : Nat} {f : Nat → Instr} (hf : commandRows[k]? = some f) (v : Nat) :
    (f v).wellFormed = decide (v / 64 = k) := by
  have hcell : (f v).wellFormed = if k = 0 then decide (v ≤ 63) else decide (64 * k ≤ v) && decide (v ≤ 64 * k + 63) :=
    of_map_eq_range (l := commandRows) (f := fun f => (f v).wellFormed)
      (g := fun k => if k = 0 then decide (v ≤ 63) else decide (64 * k ≤ v) && decide (v ≤ 64 * k + 63)) rfl hf
  rw [hcell, Bool.eq_iff_iff]
  split
  · simp only [decide_eq_true_eq]
    omega
  · simp only [Bool.and_eq_true, decide_eq_true_eq]
    omega

theorem symbolRow_cell {f : Nat → Instr} (hf : f ∈ commandRows) {v : Nat} (hi : (f v).wellFormed = true) :
    ∃ a, symbolRow a v = some (f v) := by
  obtain ⟨k, hk⟩ := List.mem_iff_getElem?.mp hf
  have hcell : v / 64 = k := by simpa [wellFormed_commandRow hk] using hi
  exact ⟨.command, by simp [symbolRow, hcell, hk]⟩

/-- Every instruction stands where its row says. -/
theorem standsAs_row (i : Instr) : StandsAs i i.row := by
  cases i with
  | streamHeader => exact ⟨.streamHeader, .cmdBegin, false, rfl⟩
  | mhdr => exact ⟨.metaBlockHeader, .cmdBegin, false, rfl⟩
  | metadata => exact ⟨.metadata, .cmdBegin, false, rfl⟩
  | uncompressed => exact ⟨.uncompressedBody, .cmdBegin, false, rfl⟩
  | setup => exact ⟨.compressedSetup, .cmdBegin, false, rfl⟩
  | cmd => exact ⟨.commandLoop, .cmdBegin, false, rfl⟩
  | lit => exact ⟨.commandLoop, .insert, false, rfl⟩
  | dist => exact ⟨.commandLoop, .distance, false, rfl⟩
  | copy => exact ⟨.commandLoop, .copy, false, rfl⟩
  | dict => exact ⟨.commandLoop, .copy, true, rfl⟩
  | pad => exact rfl
  | clsym0 | clsym1 | clsym2 | clsym3 | clsym4 | clsym5 | clsym6 | clsym7 | clsym8 | clsym9 | clsym10 | clsym11 | clsym12
  | clsym13 | clsym14 | clsym15 | clsym16 | clsym17 => exact fun _ => ⟨.codeLength, rfl⟩
  | btype0 c | btype1 c => exact fun _ => ⟨.blockType c, rfl⟩
  | btypeT c t =>
    intro hi
    obtain ⟨h2, h257⟩ := bounds_iff.mp hi
    exact ⟨.blockType c, by simp [symbolRow, h257, show t ≠ 0 by omega, show t ≠ 1 by omega]⟩
  | blen0 c | blen1 c | blen2 c | blen3 c | blen4 c | blen5 c | blen6 c | blen7 c | blen8 c | blen9 c | blen10 c | blen11 c
  | blen12 c | blen13 c | blen14 c | blen15 c | blen16 c | blen17 c | blen18 c | blen19 c | blen20 c | blen21 c | blen22 c
  | blen23 c | blen24 c | blen25 c => exact fun _ => ⟨.blockCount c, rfl⟩
  | cmapsym0 => exact fun _ => ⟨.contextMap 0, rfl⟩
  | cmapsymRun v =>
    intro hi
    obtain ⟨h1, -⟩ := bounds_iff.mp hi
    exact ⟨.contextMap v, by simp [symbolRow, show v ≠ 0 by omega]⟩
  | cmapsymValue v =>
    intro hi
    obtain ⟨h1, h271⟩ := bounds_iff.mp hi
    exact ⟨.contextMap 0, by simp [symbolRow, h271, show v ≠ 0 by omega]⟩
  | litB b => exact fun _ => ⟨.literal, by simp [symbolRow, b.isLt]⟩
  | cmdCell0 | cmdCell1 | cmdCell2 | cmdCell3 | cmdCell4 | cmdCell5 | cmdCell6 | cmdCell7 | cmdCell8 | cmdCell9 | cmdCell10 =>
    exact symbolRow_cell (by simp [commandRows])
  | dist0 | dist1 | dist2 | dist3 | dist4 | dist5 | dist6 | dist7 | dist8 | dist9 | dist10 | dist11 | dist12 | dist13 | dist14
  | dist15 => exact fun _ => ⟨.distance 0, rfl⟩
  | distDirect code =>
    intro hi
    obtain ⟨h16, h135⟩ := bounds_iff.mp hi
    exact ⟨.distance 120, by simp [symbolRow, show ¬code < 16 by omega, show code < 136 by omega]⟩
  | distLong code =>
    intro hi
    obtain ⟨h16, h519⟩ := bounds_iff.mp hi
    exact ⟨.distance 0, by simp [symbolRow, h519, show ¬code < 16 by omega]⟩
  | inscode0 | inscode1 | inscode2 | inscode3 | inscode4 | inscode5 | inscode6 | inscode7 | inscode8 | inscode9 | inscode10
  | inscode11 | inscode12 | inscode13 | inscode14 | inscode15 | inscode16 | inscode17 | inscode18 | inscode19 | inscode20
  | inscode21 | inscode22 | inscode23 => exact fun _ => ⟨.insertLength, rfl⟩
  | copycode0 | copycode1 | copycode2 | copycode3 | copycode4 | copycode5 | copycode6 | copycode7 | copycode8 | copycode9
  | copycode10 | copycode11 | copycode12 | copycode13 | copycode14 | copycode15 | copycode16 | copycode17 | copycode18
  | copycode19 | copycode20 | copycode21 | copycode22 | copycode23 => exact fun _ => ⟨.copyLength, rfl⟩
  | topIdentity | topOmitLast1 | topOmitLast2 | topOmitLast3 | topOmitLast4 | topOmitLast5 | topOmitLast6 | topOmitLast7
  | topOmitLast8 | topOmitLast9 | topUppercaseFirst | topUppercaseAll | topOmitFirst1 | topOmitFirst2 | topOmitFirst3
  | topOmitFirst4 | topOmitFirst5 | topOmitFirst6 | topOmitFirst7 | topOmitFirst8 | topOmitFirst9 =>
    exact fun _ => ⟨.transformOp 0, rfl⟩
  | topShiftFirst p | topShiftAll p => exact fun _ => ⟨.transformOp p, rfl⟩
  | dictbucket4 | dictbucket5 | dictbucket6 | dictbucket7 | dictbucket8 | dictbucket9 | dictbucket10 | dictbucket11
  | dictbucket12 | dictbucket13 | dictbucket14 | dictbucket15 | dictbucket16 | dictbucket17 | dictbucket18 | dictbucket19
  | dictbucket20 | dictbucket21 | dictbucket22 | dictbucket23 | dictbucket24 => exact fun _ => ⟨.dictBucket, rfl⟩
  | transformReserved tid =>
    intro hi
    have h121 : 121 ≤ tid := of_decide_eq_true hi
    exact ⟨.transform, by simp [entryRow, Nat.not_lt.mpr h121]⟩
  | wbits16 | wbits18 | wbits19 | wbits20 | wbits21 | wbits22 | wbits23 | wbits24 | wbits17 | wbitsLarge | wbits10
  | wbits11 | wbits12 | wbits13 | wbits14 | wbits15 | mhdrLast1Empty1 | mhdrLast1Empty0 | mhdrLast0 | mnibbles0
  | mnibbles1 | mnibbles2 | mnibbles3 | mlenNibble | isuncompressed0 | isuncompressed1 | metadataReserved0
  | metadataReserved1 | mskipbytes0 | mskipbytes1 | mskipbytes2 | mskipbytes3 | mskiplenByte | varlen0 | varlen1
  | varlenN1 | varlenN2 | varlenN3 | varlenN4 | varlenN5 | varlenN6 | varlenN7 | npostfix0 | npostfix1 | npostfix2
  | npostfix3 | ndirect | cmodeLsb6 | cmodeMsb6 | cmodeUtf8 | cmodeSigned | cmapRlemax0 | cmapRlemax | cmapImtf0
  | cmapImtf1 | hskip0 | hskip1 | hskip2 | hskip3 | nsym1 | nsym2 | nsym3 | nsym4 | treeselect0 | treeselect1 | clcl0
  | clcl3 | clcl4 | clcl2 | clcl1 | clcl5 => exact ⟨_, rfl, rfl, rfl, rfl⟩
  | _ => exact fun _ => ⟨.transform, rfl⟩

theorem standsAs_of_row {i : Instr} {row : Row} (h : i.row = row) : StandsAs i row := h ▸ standsAs_row i

/-! ### The bits of a field -/

theorem bitsOf_valueOf (bs : Bits) : bitsOf bs.length (valueOf bs) = bs := by
  induction bs with
  | nil => rfl
  | cons b bs ih =>
    have hmod : (b.toNat + 2 * valueOf bs) % 2 = b.toNat := by cases b <;> simp
    have hdiv : (b.toNat + 2 * valueOf bs) / 2 = valueOf bs := by cases b <;> simp; omega
    rw [List.length_cons, valueOf, bitsOf, hmod, hdiv, ih]
    cases b <;> rfl

theorem bitsOf_valueOf_take {bits : Bits} {n : Nat} (h : n ≤ bits.length) : bitsOf n (valueOf (bits.take n)) = bits.take n := by
  have htake := bitsOf_valueOf (bits.take n)
  rwa [List.length_take_of_le h] at htake

/-! ### Fields -/

/-- The row of the opcode table that a field row stands for; without an operand its value is 0. -/
theorem row_fieldRow {f : Field} {r : FieldRow} (hr : r ∈ fieldRows f) (x : Nat) :
    (r.instr x).row = .field f r.fixed r.width (if r.width = 0 then 0 else x) := by
  have h : (fieldRows f).map (fun r => (r.instr x).row) =
      (fieldRows f).map fun r => .field f r.fixed r.width (if r.width = 0 then 0 else x) := by
    cases f <;> rfl
  exact List.map_inj_left.mp h r hr

theorem row_fieldRow_of_lt {f : Field} {r : FieldRow} (hr : r ∈ fieldRows f) {x : Nat} (hx : x < 2 ^ r.width) :
    (r.instr x).row = .field f r.fixed r.width x := by
  rw [row_fieldRow hr]
  split
  · rw [‹r.width = 0›] at hx
    rw [Nat.lt_one_iff.mp hx]
  · rfl

theorem wellFormed_fieldRow {f : Field} {r : FieldRow} (hr : r ∈ fieldRows f) (x : Nat) :
    (r.instr x).wellFormed = (r.width == 0 || decide (x < 2 ^ r.width)) := by
  have h : (fieldRows f).map (fun r => (r.instr x).wellFormed) =
      (fieldRows f).map fun r => r.width == 0 || decide (x < 2 ^ r.width) := by
    cases f <;> rfl
  exact List.map_inj_left.mp h r hr

/-- A field's encodings are the fixed bits of its rows with their operands. -/
theorem encode_field_iff {f : Field} {i : Instr} {w : Bits} : encode (.field f) i = some w ↔
    ∃ r ∈ fieldRows f, ∃ x < 2 ^ r.width, i = r.instr x ∧ w = r.fixed ++ bitsOf r.width x := by
  constructor
  · intro h
    cases hrow : i.row with
    | field g fixed n x =>
      simp only [encode, hrow] at h
      split at h <;> cases h
      obtain ⟨rfl, hx⟩ := ‹f = g ∧ x < 2 ^ n›
      obtain ⟨r, hr, rfl, rfl, rfl⟩ := standsAs_of_row hrow
      exact ⟨r, List.mem_of_find?_eq_some hr, x, hx, rfl, rfl⟩
    | _ => simp [encode, hrow] at h
  · rintro ⟨r, hr, x, hx, rfl, rfl⟩
    simp [encode, row_fieldRow_of_lt hr hx, hx]

theorem fixed_of_find {f : Field} {r : FieldRow} {bits : Bits}
    (h : (fieldRows f).find? (fun r => r.fixed.isPrefixOf bits) = some r) : r.fixed <+: bits :=
  List.isPrefixOf_iff_prefix.mp (List.find?_some (p := fun r : FieldRow => r.fixed.isPrefixOf bits) h)

/-- The row that is found is the one whose fixed bits stand first. -/
theorem find_fieldRow {f : Field} {r : FieldRow} (hr : r ∈ fieldRows f) {bits : Bits} (h : r.fixed <+: bits) :
    (fieldRows f).find? (fun r => r.fixed.isPrefixOf bits) = some r := by
  cases hfound : (fieldRows f).find? (fun r => r.fixed.isPrefixOf bits) with
  | none => exact absurd (List.isPrefixOf_iff_prefix.mpr h) (List.find?_eq_none.mp hfound r hr)
  | some r' => rw [fieldRows_unique hr (List.mem_of_find?_eq_some hfound) h (fixed_of_find hfound)]

theorem decodeField_row {f : Field} {r : FieldRow} (hr : r ∈ fieldRows f) {x : Nat} (hx : x < 2 ^ r.width) (rest : Bits) :
    decodeField f (r.fixed ++ bitsOf r.width x ++ rest) = .ok (r.instr x, r.fixed.length + r.width) := by
  have hoperand : ((r.fixed ++ bitsOf r.width x ++ rest).drop r.fixed.length).take r.width = bitsOf r.width x := by
    rw [List.append_assoc, List.drop_left, List.take_left' (by simp)]
  rw [decodeField, find_fieldRow hr (by simp)]
  simp only [hoperand, valueOf_bitsOf hx]
  exact if_neg (by simp)

theorem decodeField_ok {f : Field} {bits : Bits} {i : Instr} {n : Nat} (h : decodeField f bits = .ok (i, n)) :
    ∃ r ∈ fieldRows f, ∃ x < 2 ^ r.width, i = r.instr x ∧ n = r.fixed.length + r.width ∧
      r.fixed ++ bitsOf r.width x <+: bits := by
  unfold decodeField at h
  split at h
  · cases h
  rename_i r hfind
  split at h <;> cases h
  obtain ⟨rest, rfl⟩ := fixed_of_find hfind
  rw [List.drop_left]
  have hwidth : r.width ≤ rest.length := by
    have := ‹¬(r.fixed ++ rest).length < r.fixed.length + r.width›
    rw [List.length_append] at this
    omega
  refine ⟨r, List.mem_of_find?_eq_some hfind, _, ?_, rfl, rfl, ?_⟩
  · simpa [hwidth] using valueOf_lt (rest.take r.width)
  · rw [bitsOf_valueOf_take hwidth]
    exact (List.prefix_append_right_inj _).mpr (List.take_prefix _ _)

/-! ### Padding, symbols, entries and operations -/

theorem encode_padding_iff {k : PadKind} {n : Nat} {i : Instr} {w : Bits} : encode (.padding k n) i = some w ↔
    ∃ v < 2 ^ n, i = .pad k n v ∧ w = bitsOf n v := by
  constructor
  · intro h
    cases hrow : i.row with
    | padding k' n' v =>
      have hi : i = .pad k' n' v := standsAs_of_row hrow
      simp only [encode, hrow] at h
      split at h <;> cases h
      obtain ⟨rfl, rfl, hv⟩ := ‹k = k' ∧ n = n' ∧ v < 2 ^ n›
      exact ⟨v, hv, hi, rfl⟩
    | _ => simp [encode, hrow] at h
  · rintro ⟨v, hv, rfl, rfl⟩
    have hrow : (Instr.pad k n v).row = .padding k n v := rfl
    simp [encode, hrow, hv]

/-- The instruction of a symbol carries the symbol's value. -/
theorem row_of_symbolRow {a : Alphabet} {v : Nat} {i : Instr} (h : symbolRow a v = some i) : i.row = .symbol v := by
  cases a with
  | codeLength => exact of_map_eq_range (l := codeLengthRows) (f := Instr.row) (g := .symbol) rfl h
  | blockCount c => exact of_map_eq_range (l := blockCountRows c) (f := Instr.row) (g := .symbol) rfl h
  | command =>
    obtain ⟨f, hf, rfl⟩ := Option.map_eq_some_iff.mp h
    exact of_map_eq_range (l := commandRows) (f := fun f => (f v).row) (g := fun _ => .symbol v) rfl hf
  | literal =>
    simp only [symbolRow] at h
    split_ifs at h with hv
    cases h
    exact congrArg Row.symbol (Nat.mod_eq_of_lt hv)
  | distance d =>
    simp only [symbolRow] at h
    split_ifs at h
    · exact of_map_eq_range (l := shortDistanceRows) (f := Instr.row) (g := .symbol) rfl h
    all_goals cases h; rfl
  | blockType c =>
    simp only [symbolRow] at h
    split_ifs at h <;> cases h
    · exact congrArg Row.symbol ‹v = 0›.symm
    · exact congrArg Row.symbol ‹v = 1›.symm
    · rfl
  | contextMap r =>
    simp only [symbolRow] at h
    split_ifs at h <;> cases h
    · exact congrArg Row.symbol ‹v = 0›.symm
    · rfl
    · rfl

theorem encode_symbol_iff {a : Alphabet} {T : PrefixCode} {i : Instr} {w : Bits} : encode (.symbol a T) i = some w ↔
    ∃ v, symbolRow a v = some i ∧ codewordBits T v = some w := by
  constructor
  · intro h
    cases hrow : i.row with
    | symbol v =>
      simp only [encode, hrow] at h
      split at h
      · exact ⟨v, ‹_›, h⟩
      · cases h
    | _ => simp [encode, hrow] at h
  · rintro ⟨v, hv, hw⟩
    simp [encode, row_of_symbolRow hv, hv, hw]

theorem encode_entry_iff {t : Table} {v : Nat} {i : Instr} {w : Bits} : encode (.entry t v) i = some w ↔
    entryRow t v = some i ∧ w = [] := by
  simp only [encode, Option.ite_none_right_eq_some, Option.some.injEq]
  exact and_congr_right fun _ => eq_comm

theorem encode_operation_iff {st : DecState} {ph : CmdPhase} {b : Bool} {i : Instr} {w : Bits} :
    encode (.operation st ph b) i = some w ↔ operationRow st ph b = some i ∧ w = [] := by
  simp only [encode, Option.ite_none_right_eq_some, Option.some.injEq]
  exact and_congr_right fun _ => eq_comm

end Sys2Proof.Machine
end

section
/-! Obligations O4 and O5. Decoding and encoding are inverse to each other, at each place of the grammar; for a prefix code
decoding needs it to be valid, encoding does not (30_encoding.md R70 to R94; 41_prefix_codes.md R118 to R124). -/

namespace Sys2Proof.Machine

/-! ### The codeword that a walk reads -/

/-- A symbol of length `l` stands in the list of such symbols behind those before it. -/
theorem index_of_positionsOf {l p k : Nat} {T : List Nat} {i : Nat} (h : (positionsOf l T i)[k]? = some p) :
    (T.take (p - i)).count l = k := by
  induction T generalizing i k with
  | nil => simp [positionsOf] at h
  | cons x xs ih =>
    have hrest {k : Nat} (h : (positionsOf l xs (i + 1))[k]? = some p) :
        ((x :: xs).take (p - i)).count l = k + if x = l then 1 else 0 := by
      have hle := (mem_positionsOf (List.mem_of_getElem? h)).1
      rw [show p - i = p - (i + 1) + 1 by omega, List.take_succ_cons, List.count_cons, ih h]
      simp
    unfold positionsOf at h
    split at h
    · cases k with
      | zero => simp_all
      | succ k => simpa [*] using hrest h
    · simpa [*] using hrest h

theorem symbolAt_value {T : PrefixCode} {l c v : Nat} (h : symbolAt T l c = some v) :
    c = firstCode T l + (T.take v).count l := by
  unfold symbolAt at h
  split at h
  · have := index_of_positionsOf h
    rw [Nat.sub_zero] at this
    omega
  · cases h

/-- A walk stops at a symbol whose codeword is the bits read, the first one most significant. -/
theorem walkCode_symbolAt {T : PrefixCode} {fuel v n : Nat} {pre bits : Bits}
    (h : walkCode T fuel pre.length (valueOf pre.reverse) bits = .ok (v, n)) :
    n ≤ (pre ++ bits).length ∧ symbolAt T n (valueOf ((pre ++ bits).take n).reverse) = some v := by
  induction fuel generalizing pre bits with
  | zero => cases h
  | succ fuel ih =>
    cases bits with
    | nil => cases h
    | cons b bs =>
      have hvalue : 2 * valueOf pre.reverse + b.toNat = valueOf (pre ++ [b]).reverse := by simp [valueOf, Nat.add_comm]
      have hlength : pre.length + 1 = (pre ++ [b]).length := by simp
      rw [walkCode, hvalue, hlength] at h
      rw [List.append_cons]
      split at h
      · cases h
        exact ⟨by simp, by rwa [List.take_left]⟩
      · exact ih h

theorem codeword_of_symbolAt {T : PrefixCode} {l c v : Nat} (hone : oneSymbol T = none) (hl : l ≠ 0)
    (h : symbolAt T l c = some v) : codeword T v = some (l, c) := by
  simp [codeword, hone, symbolAt_length h, hl, symbolAt_value h]

/-- The bits that decoding a symbol takes are the symbol's codeword, valid code or not (41_prefix_codes.md R123). -/
theorem codewordBits_of_decodeSymbol {T : PrefixCode} {bits : Bits} {v n : Nat} (h : decodeSymbol T bits = .ok (v, n)) :
    n ≤ bits.length ∧ codewordBits T v = some (bits.take n) := by
  unfold decodeSymbol at h
  split at h
  · cases h
    simp [codewordBits, codeword, *, bitsOf]
  · obtain ⟨hn, hv⟩ := walkCode_symbolAt (pre := []) h
    have hcode := codeword_of_symbolAt ‹_› (walkCode_length h).1 hv
    simp only [List.nil_append] at hn hv hcode
    have hbits := bitsOf_valueOf ((bits.take n).reverse)
    rw [List.length_reverse, List.length_take_of_le hn] at hbits
    exact ⟨hn, by simp [codewordBits, hcode, hbits]⟩

/-- The codeword of a symbol in a valid code decodes to it, whatever bits follow (41_prefix_codes.md R120, R123, R124). -/
theorem decodeSymbol_codewordBits {A : Nat} {T : PrefixCode} (hT : validCode A T = true) {v : Nat} {w : Bits}
    (hw : codewordBits T v = some w) (rest : Bits) : decodeSymbol T (w ++ rest) = .ok (v, w.length) := by
  obtain ⟨-, h15, hspace⟩ := validCode_iff.mp hT
  obtain ⟨⟨l, c⟩, hc, rfl⟩ := Option.map_eq_some_iff.mp hw
  have hlength : (bitsOf l c).reverse.length = l := by simp
  rw [hlength]
  obtain hone | hkraft := hspace
  · obtain ⟨s, hs⟩ := Option.isSome_iff_exists.mp hone
    simp only [codeword, hs] at hc
    split at hc <;> cases hc
    simp [decodeSymbol, *]
  · refine decodeSymbol_codeword hc ?_ hkraft.le rest
    obtain rfl | hl := codeword_length hc
    · decide
    · exact h15 l hl

/-! ### Every place -/

/-- Settles O5: the row that is found is the row that the encoder writes, with the operand that was read. -/
theorem decodeThenEncode : Obligations.DecodeThenEncode := by
  intro c bits i n h
  cases c with
  | operation st ph b =>
    simp only [decode] at h
    split at h <;> cases h
    exact ⟨Nat.zero_le _, encode_operation_iff.mpr ⟨‹_›, rfl⟩⟩
  | field f =>
    obtain ⟨r, hr, x, hx, rfl, rfl, hprefix⟩ := decodeField_ok h
    have hlength : (r.fixed ++ bitsOf r.width x).length = r.fixed.length + r.width := by simp
    rw [← hlength]
    exact ⟨hprefix.length_le, encode_field_iff.mpr ⟨r, hr, x, hx, rfl, (List.prefix_iff_eq_take.mp hprefix).symm⟩⟩
  | padding k m =>
    simp only [decode] at h
    split at h <;> cases h
    have hle : n ≤ bits.length := Nat.not_lt.mp ‹_›
    have hv := valueOf_lt (bits.take n)
    rw [List.length_take_of_le hle] at hv
    exact ⟨hle, encode_padding_iff.mpr ⟨_, hv, rfl, (bitsOf_valueOf_take hle).symm⟩⟩
  | symbol a T =>
    simp only [decode] at h
    split at h
    · cases h
    split at h <;> cases h
    obtain ⟨hle, hw⟩ := codewordBits_of_decodeSymbol ‹_›
    exact ⟨hle, encode_symbol_iff.mpr ⟨_, ‹_›, hw⟩⟩
  | entry t v =>
    simp only [decode] at h
    split at h <;> cases h
    exact ⟨Nat.zero_le _, encode_entry_iff.mpr ⟨‹_›, rfl⟩⟩

/-- What is encoded decodes, whatever bits follow. -/
theorem decode_encode {c : Ctx} (hc : ∀ a T, c = .symbol a T → validCode T.length T = true) {i : Instr} {w : Bits}
    (h : encode c i = some w) (rest : Bits) : decode c (w ++ rest) = .ok (i, w.length) := by
  cases c with
  | operation st ph b =>
    obtain ⟨hi, rfl⟩ := encode_operation_iff.mp h
    simp [decode, hi]
  | field f =>
    obtain ⟨r, hr, x, hx, rfl, rfl⟩ := encode_field_iff.mp h
    simpa [decode] using decodeField_row hr hx rest
  | padding k n =>
    obtain ⟨v, hv, rfl, rfl⟩ := encode_padding_iff.mp h
    simp [decode, List.take_left', valueOf_bitsOf hv]
  | symbol a T =>
    obtain ⟨v, hv, hw⟩ := encode_symbol_iff.mp h
    simp [decode, decodeSymbol_codewordBits (hc a T rfl) hw rest, hv]
  | entry t v =>
    obtain ⟨hi, rfl⟩ := encode_entry_iff.mp h
    simp [decode, hi]

/-! ### A place for every instruction -/

/-- The code of one symbol `v`, which takes no bits (41_prefix_codes.md R124). -/
theorem codewordBits_alone (v : Nat) : codewordBits ((List.replicate (v + 1) 0).set v 1) v = some [] := by
  have hone : oneSymbol ((List.replicate (v + 1) 0).set v 1) = some v := by
    simp [oneSymbol, usedSymbols_set (Nat.lt_succ_self v)]
  simp [codewordBits, codeword, hone, bitsOf]

/-- A well-formed instruction has an encoding, at a place of the kind of its row (30_encoding.md R94). -/
theorem exists_encode {i : Instr} (hi : i.wellFormed = true) : ∃ c w, encode c i = some w := by
  cases hrow : i.row with
  | operation =>
    obtain ⟨st, ph, b, h⟩ := standsAs_of_row hrow
    exact ⟨.operation st ph b, [], encode_operation_iff.mpr ⟨h, rfl⟩⟩
  | field f fixed w x =>
    obtain ⟨r, hfind, rfl, rfl, rfl⟩ := standsAs_of_row hrow
    have hr := List.mem_of_find?_eq_some hfind
    have hx : x < 2 ^ r.width := by
      rw [wellFormed_fieldRow hr, Bool.or_eq_true, beq_iff_eq, decide_eq_true_eq] at hi
      obtain h0 | hx := hi
      · rw [row_fieldRow hr, if_pos h0] at hrow
        cases hrow
        exact Nat.two_pow_pos _
      · exact hx
    exact ⟨.field f, _, encode_field_iff.mpr ⟨r, hr, x, hx, rfl, rfl⟩⟩
  | padding k n v =>
    obtain rfl : i = .pad k n v := standsAs_of_row hrow
    obtain ⟨-, hv⟩ := bounds_iff.mp hi
    exact ⟨.padding k n, _, encode_padding_iff.mpr ⟨v, hv, rfl, rfl⟩⟩
  | symbol v =>
    obtain ⟨a, ha⟩ := standsAs_of_row hrow hi
    exact ⟨.symbol a _, [], encode_symbol_iff.mpr ⟨v, ha, codewordBits_alone v⟩⟩
  | entry v =>
    obtain ⟨t, ht⟩ := standsAs_of_row hrow hi
    exact ⟨.entry t v, [], encode_entry_iff.mpr ⟨ht, rfl⟩⟩

/-- Settles O4: at a place, what the encoder writes decodes to the instruction; and each kind of row has its places. -/
theorem encodeThenDecode : Obligations.EncodeThenDecode :=
  ⟨fun _ _ _ rest hc h => decode_encode hc h rest, fun _ hi => exists_encode hi⟩

end Sys2Proof.Machine
end

section
/-! Obligations O3, O6 and O7. What decodes is well formed; under a valid code 15 bits always decode to a used symbol; and words
written out from the spec (30_encoding.md R73 to R94; 41_prefix_codes.md R117, R118, R123). -/

namespace Sys2Proof.Machine

/-- Settles O3: the decoder runs on each word. -/
theorem writtenWordsDecode : Obligations.WrittenWordsDecode := by
  unfold Obligations.WrittenWordsDecode
  decide

/-! ### What decodes is well formed -/

theorem wellFormed_operationRow {st : DecState} {ph : CmdPhase} {b : Bool} {i : Instr} (h : operationRow st ph b = some i) :
    i.wellFormed = true := by
  have hall : ∀ i ∈ operations, i.wellFormed = true := by decide
  exact hall i (operationRow_mem h)

/-- The symbols of an alphabet are well formed where its parameter is in range (30_encoding.md R77, R79 to R81, R84, R85, R92). -/
theorem wellFormed_symbolRow {a : Alphabet} {T : PrefixCode} (hproper : (Ctx.symbol a T).proper = true) {v : Nat} {i : Instr}
    (h : symbolRow a v = some i) : i.wellFormed = true := by
  cases a with
  | codeLength =>
    have hrows : codeLengthRows.map Instr.wellFormed = List.replicate 18 true := rfl
    exact of_map_eq_replicate hrows (List.mem_of_getElem? h)
  | blockCount c =>
    have hrows : (blockCountRows c).map Instr.wellFormed = List.replicate 26 true := rfl
    exact of_map_eq_replicate hrows (List.mem_of_getElem? h)
  | command =>
    obtain ⟨f, hf, rfl⟩ := Option.map_eq_some_iff.mp h
    simp [wellFormed_commandRow hf]
  | literal =>
    simp only [symbolRow] at h
    split_ifs at h
    cases h
    rfl
  | blockType c =>
    simp only [symbolRow] at h
    split_ifs at h <;> cases h
    · rfl
    · rfl
    · exact bounds_iff.mpr ⟨by omega, ‹v ≤ 257›⟩
  | contextMap r =>
    have h16 : r ≤ 16 := of_decide_eq_true hproper
    simp only [symbolRow] at h
    split_ifs at h <;> cases h
    · rfl
    · exact bounds_iff.mpr ⟨by omega, by omega⟩
    · exact bounds_iff.mpr ⟨by omega, ‹v ≤ 271›⟩
  | distance d =>
    have h120 : d ≤ 120 := of_decide_eq_true hproper
    have hrows : shortDistanceRows.map Instr.wellFormed = List.replicate 16 true := rfl
    simp only [symbolRow] at h
    split_ifs at h
    · exact of_map_eq_replicate hrows (List.mem_of_getElem? h)
    · cases h
      exact bounds_iff.mpr ⟨by omega, by omega⟩
    · cases h
      exact bounds_iff.mpr ⟨by omega, ‹v ≤ 519›⟩

theorem wellFormed_entryRow {t : Table} {v : Nat} {i : Instr} (h : entryRow t v = some i) : i.wellFormed = true := by
  cases t with
  | insertLength =>
    have hrows : insertLengthRows.map Instr.wellFormed = List.replicate 24 true := rfl
    exact of_map_eq_replicate hrows (List.mem_of_getElem? h)
  | copyLength =>
    have hrows : copyLengthRows.map Instr.wellFormed = List.replicate 24 true := rfl
    exact of_map_eq_replicate hrows (List.mem_of_getElem? h)
  | transformOp param =>
    have hrows : (transformOpRows param).map Instr.wellFormed = List.replicate 23 true := rfl
    exact of_map_eq_replicate hrows (List.mem_of_getElem? h)
  | transform =>
    have hrows : transformRows.map Instr.wellFormed = List.replicate 121 true := rfl
    simp only [entryRow] at h
    split_ifs at h with h121
    · exact of_map_eq_replicate hrows (List.mem_of_getElem? h)
    · cases h
      exact decide_eq_true (Nat.not_lt.mp h121)
  | dictBucket =>
    have hrows : dictBucketRows.map Instr.wellFormed = List.replicate 21 true := rfl
    simp only [entryRow] at h
    split_ifs at h
    exact of_map_eq_replicate hrows (List.mem_of_getElem? h)

/-- Settles O6: the rows of every kind of place are well formed. -/
theorem decodedInstructionsAreWellFormed : Obligations.DecodedInstructionsAreWellFormed := by
  intro c bits i n hproper h
  cases c with
  | operation st ph b =>
    simp only [decode] at h
    split at h <;> cases h
    exact wellFormed_operationRow ‹_›
  | field f =>
    obtain ⟨r, hr, x, hx, rfl, -, -⟩ := decodeField_ok h
    simp [wellFormed_fieldRow hr, hx]
  | padding k m =>
    simp only [decode] at h
    split at h <;> cases h
    have hv := valueOf_lt (bits.take n)
    rw [List.length_take_of_le (Nat.not_lt.mp ‹_›)] at hv
    exact bounds_iff.mpr ⟨of_decide_eq_true hproper, hv⟩
  | symbol a T =>
    simp only [decode] at h
    split at h
    · cases h
    split at h <;> cases h
    exact wellFormed_symbolRow hproper ‹_›
  | entry t v =>
    simp only [decode] at h
    split at h <;> cases h
    exact wellFormed_entryRow ‹_›

/-! ### Every pattern decodes -/

theorem usedSymbols_ne_zero {T : List Nat} {i p : Nat} (h : p ∈ usedSymbols T i) : i ≤ p ∧ T.getD (p - i) 0 ≠ 0 := by
  induction T generalizing i with
  | nil => cases h
  | cons x xs ih =>
    have hrest (h : p ∈ usedSymbols xs (i + 1)) : i ≤ p ∧ (x :: xs).getD (p - i) 0 ≠ 0 := by
      obtain ⟨hle, hne⟩ := ih h
      exact ⟨by omega, by rw [show p - i = p - (i + 1) + 1 by omega]; simpa using hne⟩
    unfold usedSymbols at h
    split at h
    · exact hrest h
    · obtain rfl | h := List.mem_cons.mp h
      · simpa using ‹¬x = 0›
      · exact hrest h

theorem oneSymbol_ne_zero {T : PrefixCode} {v : Nat} (h : oneSymbol T = some v) : T.getD v 0 ≠ 0 := by
  unfold oneSymbol at h
  split at h
  · cases h
    simpa using (usedSymbols_ne_zero (T := T) (i := 0) (p := v) (by simp [*])).2
  · cases h

/-- A symbol that is decoded is used, and takes no more bits than the longest codeword. -/
theorem decodeSymbol_used {T : PrefixCode} (h15 : ∀ l ∈ T, l ≤ 15) {bits : Bits} {v n : Nat}
    (h : decodeSymbol T bits = .ok (v, n)) : n ≤ 15 ∧ T.getD v 0 ≠ 0 := by
  unfold decodeSymbol at h
  split at h
  · cases h
    exact ⟨Nat.zero_le _, oneSymbol_ne_zero ‹_›⟩
  · obtain ⟨hn, hv⟩ := walkCode_length h
    exact ⟨h15 n (List.mem_of_getElem? hv), by simpa [List.getD, hv] using hn⟩

/-- A walk runs out of bits only where it may take more of them than there are. -/
theorem walkCode_endOfInput {T : PrefixCode} {fuel l c used : Nat} {bits : Bits}
    (h : walkCode T fuel l c bits = .error (.endOfInput used)) : bits.length < fuel := by
  induction fuel generalizing l c bits with
  | zero => cases h
  | succ fuel ih =>
    cases bits with
    | nil => exact Nat.succ_pos fuel
    | cons b bs =>
      unfold walkCode at h
      split at h
      · cases h
      · exact Nat.succ_lt_succ (ih h)

/-- Settles O7: under a valid code a walk that does not run out of bits finds a symbol. -/
theorem validCodesDecodeEveryPattern : Obligations.ValidCodesDecodeEveryPattern := by
  intro A T bits hT hbits
  obtain ⟨hlength, h15, -⟩ := validCode_iff.mp hT
  obtain ⟨⟨v, n⟩, h⟩ | ⟨used, h⟩ := decodeSymbol_complete hT bits
  · obtain ⟨hn, hused⟩ := decodeSymbol_used h15 h
    exact ⟨v, n, h, hn, hlength ▸ decodeSymbol_lt h, hused⟩
  · unfold decodeSymbol at h
    split at h
    · cases h
    · exact absurd (walkCode_endOfInput h) (Nat.not_lt.mpr hbits)

end Sys2Proof.Machine
end

section
/-! SUPPORT. A row where its guard admits it, and what the shared effects of the rows of SETUP give when their bits are left
(40_bitreader.md R96). -/

namespace Sys2Proof.Machine

/-- The guard of an operation, which is no element, admits nothing; so what a guard admits is an element's row. -/
theorem exec_of_admits {i : Instr} {g : Guard} (hi : guardOf i = g) {s : State} (h : g.admits s.state s.cmdPhase = true) :
    exec i s = deliver s (elem i s) := by
  have hrows : ∀ i ∈ operations, i.row = .operation := by decide
  have hmem : i ∉ operations := fun hmem => by
    rw [guardOf, hrows i hmem] at hi
    subst hi
    simp [Guard.admits] at h
  rw [exec_element hmem, hi, Guard.run_of_admits h]

theorem exec_symbolRow {a : Alphabet} {v : Nat} {i : Instr} (h : symbolRow a v = some i) {s : State}
    (hg : (alphabetGuard a).admits s.state s.cmdPhase = true) : exec i s = deliver s (symbolEffect a v s) := by
  rw [exec_of_admits (symbolRow_guard h) hg, elem_symbolRow h]

/-- A row of SETUP whose effect completes. -/
theorem exec_setupRow {i : Instr} {s t : State} (hs : s.state = .compressedSetup) (hi : guardOf i = .states [.compressedSetup])
    (h : elem i s = .ok t) : exec i s = .next t := by
  rw [exec_of_admits hi (by simp [Guard.admits, hs]), h, deliver_ok]

/-- An error that an effect raises. -/
theorem raises_deliver (s : State) (k : ErrorKind) (m : String) (p : Nat) : Raises (deliver s (.error (.raise k m p))) s k p :=
  ⟨m, rfl⟩

section
variable {s : State} {n : Nat}

theorem setCount_eq (h : s.has n) (v : Nat) :
    setCount n v s = .ok { s with bitpos := s.bitpos + n, work := { s.work with count := v } } := by
  simp [setCount, skip_eq h, State.advance]

theorem setPostfix_eq (h : s.has 2) (k : Nat) : setPostfix k s = .ok { s with bitpos := s.bitpos + 2, npostfix := k } := by
  simp [setPostfix, skip_eq h, State.advance]

theorem setDirect_eq (h : s.has 4) (x : Nat) :
    setDirect x s = .ok { s with bitpos := s.bitpos + 4, ndirect := x * 2 ^ s.npostfix } := by
  simp [setDirect, skip_eq h, State.advance, Nat.shiftLeft_eq]

theorem pushMode_eq (h : s.has 2) (m : CtxMode) :
    pushMode m s = .ok { s with bitpos := s.bitpos + 2, cmode := s.cmode ++ [m] } := by
  simp [pushMode, skip_eq h, State.advance]

theorem setRlemax_eq (h : s.has n) (r : Nat) :
    setRlemax n r s = .ok { s with bitpos := s.bitpos + n, work := { s.work with rlemax := r } } := by
  simp [setRlemax, skip_eq h, State.advance]

theorem applyMoveToFront_eq (h : s.has 1) : applyMoveToFront s = .ok { s with
    bitpos := s.bitpos + 1, work := { s.work with map := moveToFront (List.range 256) s.work.map } } := by
  simp [applyMoveToFront, skip_eq h, State.advance]

theorem startSimple_eq (h : s.has 2) :
    startSimple s = .ok { s with bitpos := s.bitpos + 2, work := { s.work with hskip := 1, syms := [] } } := by
  simp [startSimple, skip_eq h, State.advance]

theorem startComplex_eq (h : s.has 2) (k : Nat) : startComplex k s = .ok { s with
    bitpos := s.bitpos + 2
    work := { s.work with hskip := k, index := k, cl := List.replicate 18 0, num := 0, space := 32 } } := by
  simp [startComplex, skip_eq h, State.advance]

theorem selectTree_eq (h : s.has 1) (b : Bool) : selectTree b s = .ok { s with
    bitpos := s.bitpos + 1
    work := { s.work with lens := lengthsOf s.work.alphabet (s.work.syms.zip (simpleLengths 4 b)) } } := by
  simp [selectTree, skip_eq h, State.advance, assignSimple]

theorem codeLengthLength_at (h : s.has n) {sym : Nat} (hsym : codeLengthOrder[s.work.index]? = some sym) (v : Nat) :
    codeLengthLength n v s = .ok { s with
      bitpos := s.bitpos + n
      work := { s.work with
        cl := s.work.cl.set sym v, index := s.work.index + 1,
        num := if v = 0 then s.work.num else s.work.num + 1,
        space := if v = 0 then s.work.space else s.work.space - ((32 / 2 ^ v : Nat) : Int) } } := by
  rw [codeLengthLength_eq, skip_eq h, Res.ok_bind]
  simp only [State.advance_work, hsym]
  by_cases hv : v = 0 <;> simp [Work.codeLength, State.advance, hv, Nat.shiftRight_eq_div_pow]

end

end Sys2Proof.Machine
end

section
/-! Obligations O29 and O30. The rows of SETUP's fields and of a prefix code's header, each under SETUP's guard
(42_metablock.md R145 to R152; 41_prefix_codes.md R104 to R108). -/

namespace Sys2Proof.Machine

/-- Settles O29: each row is its effect, which writes one field. -/
theorem setupFieldRowsSetTheirFields : Obligations.SetupFieldRowsSetTheirFields := by
  intro s hs
  refine ⟨fun h => exec_setupRow hs rfl (setCount_eq h 0), fun h => exec_setupRow hs rfl (setCount_eq h 1),
    fun h x => exec_setupRow hs rfl (setCount_eq h (2 + x)), fun h x => exec_setupRow hs rfl (setCount_eq h (4 + x)),
    fun h x => exec_setupRow hs rfl (setCount_eq h (8 + x)), fun h x => exec_setupRow hs rfl (setCount_eq h (16 + x)),
    fun h x => exec_setupRow hs rfl (setCount_eq h (32 + x)), fun h x => exec_setupRow hs rfl (setCount_eq h (64 + x)),
    fun h x => exec_setupRow hs rfl (setCount_eq h (128 + x)), fun h i k hi => ?_,
    fun h x => exec_setupRow hs rfl (setDirect_eq h x), fun h i m hi => ?_,
    fun h => exec_setupRow hs rfl (setRlemax_eq h 0), fun h x => exec_setupRow hs rfl (setRlemax_eq h (x + 1)),
    fun h => exec_setupRow hs rfl (skip_eq h), fun h => exec_setupRow hs rfl (applyMoveToFront_eq h)⟩ <;>
    simp only [List.mem_cons, List.not_mem_nil, or_false, Prod.mk.injEq] at hi
  · obtain ⟨rfl, rfl⟩ | ⟨rfl, rfl⟩ | ⟨rfl, rfl⟩ | ⟨rfl, rfl⟩ := hi <;> exact exec_setupRow hs rfl (setPostfix_eq h _)
  · obtain ⟨rfl, rfl⟩ | ⟨rfl, rfl⟩ | ⟨rfl, rfl⟩ | ⟨rfl, rfl⟩ := hi <;> exact exec_setupRow hs rfl (pushMode_eq h _)

/-- The entries of a simple code: a listed symbol has its listed length (41_prefix_codes.md R107). -/
theorem lengthsOf_zip_getElem? {A : Nat} {syms ls : List Nat} (hd : syms.Nodup) {y : Nat} (hy : y < A) :
    (lengthsOf A (syms.zip ls))[y]? = some (((syms.zip ls).lookup y).getD 0) := by
  rw [lengthsOf_eq_lookup (hd.sublist (map_fst_zip_sublist syms ls))]
  simp [hy]

/-- Settles O30: each row is its effect; the lengths of a tree of four symbols are looked up entry by entry. -/
theorem prefixCodeHeaderRows : Obligations.PrefixCodeHeaderRows := by
  intro s hs
  refine ⟨fun h => exec_setupRow hs rfl (startSimple_eq h), fun h i k hi => ?_, fun h _ hd _ i ls hi => ?_,
    fun i n v sym hi h hsym => ?_⟩
  · simp only [List.mem_cons, List.not_mem_nil, or_false, Prod.mk.injEq] at hi
    obtain ⟨rfl, rfl⟩ | ⟨rfl, rfl⟩ | ⟨rfl, rfl⟩ := hi <;> exact exec_setupRow hs rfl (startComplex_eq h _)
  · simp only [List.mem_cons, List.not_mem_nil, or_false, Prod.mk.injEq] at hi
    refine ⟨lengthsOf s.work.alphabet (s.work.syms.zip ls), ?_, length_lengthsOf .., fun y hy => lengthsOf_zip_getElem? hd hy⟩
    obtain ⟨rfl, rfl⟩ | ⟨rfl, rfl⟩ := hi
    · exact exec_setupRow hs rfl (selectTree_eq h false)
    · exact exec_setupRow hs rfl (selectTree_eq h true)
  · simp only [List.mem_cons, List.not_mem_nil, or_false, Prod.mk.injEq] at hi
    obtain ⟨rfl, rfl, rfl⟩ | ⟨rfl, rfl, rfl⟩ | ⟨rfl, rfl, rfl⟩ | ⟨rfl, rfl, rfl⟩ | ⟨rfl, rfl, rfl⟩ | ⟨rfl, rfl, rfl⟩ := hi <;>
      exact exec_setupRow hs rfl (codeLengthLength_at h hsym _)

end Sys2Proof.Machine
end

section
/-! Obligations O34, O37 and O38. The rows of block types, block counts and command lengths: base and extra bits, and the tables
whose ranges follow one another (30_encoding.md R79 to R83, R91; 43_command_loop.md R162 to R170). -/

namespace Sys2Proof.Machine

theorem State.advance_has {s : State} {m n : Nat} (h : s.has (m + n)) : (s.advance m).has n := by
  simp only [State.has, State.advance_bitpos, State.advance_inputBits] at h ⊢
  omega

/-! ### Block types and block counts -/

theorem switchType_eq {c : Category} {t l : Nat} {s : State} (h : s.spells (some (s.tracker c).htreeBtype) t l) :
    switchType c t s = .ok ((s.advance l).setTracker c { s.tracker c with
      prevType := (s.tracker c).btype, btype := (s.tracker c).resolve t }) := by
  simp [switchType, consume_spells h]

theorem renewCount_eq {c : Category} {j l : Nat} {s : State} (h : s.spells (some (s.tracker c).htreeBlen) j l)
    (hx : s.has (l + blockCountExtra.getD j 0)) :
    renewCount c j s = .ok ((s.advance (l + blockCountExtra.getD j 0)).setTracker c { s.tracker c with
      blen := blockCountBase.getD j 0 + s.inp.field (s.bitpos + l) (blockCountExtra.getD j 0) }) := by
  rw [renewCount, consume_spells h, Res.ok_bind, readBits_eq (State.advance_has hx)]
  simp

/-- Settles O34: each row is its effect under its guard; the tables are computed. -/
theorem blockTypeAndCountRows : Obligations.BlockTypeAndCountRows := by
  refine ⟨fun s c l => ⟨fun hs i t hi h => ?_, fun hs i j hi h hx => ?_⟩, by decide, by decide, by decide, by decide⟩
  · have hrow : exec i s = deliver s (switchType c t s) := by
      simp only [List.mem_cons, List.not_mem_nil, or_false, Prod.mk.injEq] at hi
      obtain (⟨rfl, rfl⟩ | ⟨rfl, rfl⟩) | ⟨-, rfl⟩ := hi <;>
        exact exec_of_admits (g := .states [.commandLoop]) rfl (by simp [Guard.admits, hs])
    rw [hrow, switchType_eq h]
    rfl
  · rw [exec_symbolRow (a := .blockCount c) hi (by simpa [alphabetGuard, Guard.admits] using hs), symbolEffect, renewCount_eq h hx,
      deliver_ok]

/-! ### Insert and copy lengths -/

section
variable {s : State} {k : Nat}

theorem insertLength_eq (h : s.has (insertExtra.getD k 0)) : insertLength k s = .ok { s with
    bitpos := s.bitpos + insertExtra.getD k 0
    insertLen := insertBase.getD k 0 + s.peek (insertExtra.getD k 0) } := by
  rw [insertLength, readBits_eq h]
  rfl

theorem copyLength_eq (h : s.has (copyExtra.getD k 0)) : copyLength k s = .ok { s with
    bitpos := s.bitpos + copyExtra.getD k 0
    copyLen := copyBase.getD k 0 + s.peek (copyExtra.getD k 0)
    distCtx := min k 3 } := by
  rw [copyLength, readBits_eq h]
  rfl

end

theorem exec_entryRow {t : Table} {v : Nat} {i : Instr} (h : entryRow t v = some i) {s : State}
    (hg : (tableGuard t).admits s.state s.cmdPhase = true) : exec i s = deliver s (elem i s) :=
  exec_of_admits (entryRow_guard h) hg

/-- Settles O38: each row is its effect under its guard; the tables are computed. -/
theorem lengthCodeRows : Obligations.LengthCodeRows := by
  refine ⟨fun s k i hs hp => ⟨fun hi h => ?_, fun hi h => ?_⟩, by decide, by decide, by decide, by decide, by decide, by decide,
    by decide, by decide⟩
  · rw [exec_entryRow (t := .insertLength) hi (by simp [tableGuard, Guard.admits, hs, hp]),
      of_rows (rows := insertLengthRows) (f := fun k => insertLength k s) rfl hi, insertLength_eq h, deliver_ok]
  · rw [exec_entryRow (t := .copyLength) hi (by simp [tableGuard, Guard.admits, hs, hp]),
      of_rows (rows := copyLengthRows) (f := fun k => copyLength k s) rfl hi, copyLength_eq h, deliver_ok]

/-! ### Commands -/

theorem insertCodeOf_eq (cell sym : Nat) : insertCodeOf cell sym = insertCodeBase.getD cell 0 + sym / 8 % 8 := by
  rw [insertCodeOf, Nat.shiftRight_eq_div_pow, show 7 = 2 ^ 3 - 1 from rfl, Nat.and_two_pow_sub_one_eq_mod]

theorem copyCodeOf_eq (cell sym : Nat) : copyCodeOf cell sym = copyCodeBase.getD cell 0 + sym % 8 := by
  rw [copyCodeOf, show 7 = 2 ^ 3 - 1 from rfl, Nat.and_two_pow_sub_one_eq_mod]

/-- The distance context of a copy length code is that of its lengths: 2, 3, 4, or more (30_encoding.md R83, R91). -/
theorem distCtx_of_copyLength {k x : Nat} (hk : k < 24) (hx : x < 2 ^ copyExtra.getD k 0) : min k 3 =
    if copyBase.getD k 0 + x = 2 then 0 else if copyBase.getD k 0 + x = 3 then 1 else if copyBase.getD k 0 + x = 4 then 2 else 3 := by
  match k with
  | 0 | 1 | 2 =>
    obtain rfl : x = 0 := Nat.lt_one_iff.mp hx
    rfl
  | k + 3 =>
    have hbase : ∀ k < 21, 5 ≤ copyBase.getD (k + 3) 0 := by decide
    have := hbase k (by omega)
    rw [if_neg (by omega), if_neg (by omega), if_neg (by omega)]
    omega

/-- A command symbol sets the registers of the command, then checks the insert length (43_command_loop.md R164 to R170). -/
theorem command_eq {sym l : Nat} {s : State} (hsym : sym / 64 < 11) (h : s.spells s.commandCode sym l)
    (hin : (s.withCommand sym l).bitpos ≤ s.inputBits) : command (sym / 64) sym s =
      if s.remaining < (s.withCommand sym l).insertLen then
        raise .formatBlockLength1 "insert past meta-block end" (s.withCommand sym l)
      else if 0 < (s.withCommand sym l).insertLen then .ok { s.withCommand sym l with cmdPhase := .insert }
      else postInsert (s.withCommand sym l) := by
  have hcopy := distCtx_of_copyLength (copyCodeOf_lt sym hsym) (s.inp.field_lt
    (s.bitpos + l + insertExtra.getD (insertCodeOf (sym / 64) sym) 0) (copyExtra.getD (copyCodeOf (sym / 64) sym) 0))
  have hcell : decide (sym / 64 ≤ 1) = decide (sym < 128) := by rw [decide_eq_decide]; omega
  simp only [State.withCommand, ← insertCodeOf_eq, ← copyCodeOf_eq, ← hcopy, ← hcell] at hin ⊢
  rw [command, consume_spells h, Res.ok_bind, insertLength_eq (State.advance_has ?_), Res.ok_bind, copyLength_eq ?_]
  · rfl
  · simp only [State.has, State.inputBits, State.advance] at hin ⊢
    exact hin
  · simp only [State.has, State.inputBits] at hin ⊢
    omega

/-- Settles O37: the row of a command symbol is its effect, by what the insert length is. -/
theorem commandRowsSetTheLengths : Obligations.CommandRowsSetTheLengths := by
  intro s f sym l hs hp hf h t hin
  have hrow : exec (f sym) s = deliver s (command (sym / 64) sym s) :=
    exec_symbolRow (a := .command) (by simp [symbolRow, hf]) (by simp [alphabetGuard, Guard.admits, hs, hp])
  have hsym : sym / 64 < 11 := (List.getElem?_eq_some_iff.mp hf).1
  rw [hrow, command_eq hsym h hin]
  refine ⟨fun h0 hle => ?_, fun h0 hresume => ?_, fun hlt => ?_⟩
  · rw [if_neg (Nat.not_lt.mpr hle), if_pos (Nat.pos_of_ne_zero h0), deliver_ok]
  · rw [if_neg (by rw [h0]; exact Nat.not_lt_zero _), if_neg (by rw [h0]; exact Nat.lt_irrefl 0), postInsert_eq hresume, deliver_ok]
  · rw [if_pos hlt]
    exact raises_deliver ..

end Sys2Proof.Machine
end

section
/-! Obligations O39, O40 and O51. The distance codes: short codes against the ring, direct and long codes by their formula, and DIST,
which reads one of them or repeats the last distance (30_encoding.md R84, R85; 43_command_loop.md R174 to R178). -/

namespace Sys2Proof.Machine

/-! ### The effects of distance codes -/

theorem shortDistance_of_shortDistances {r : DistRing} {k : Nat} {d : Int} (h : (shortDistances r)[k]? = some d) :
    shortDistance r k = d :=
  (of_map_eq_range (l := shortDistances r) (f := id) (g := shortDistance r) rfl h).symm

theorem distanceBits_eq (npostfix ndirect code : Nat) :
    distanceBits npostfix ndirect code = 1 + (code - ndirect - 16) / 2 ^ (npostfix + 1) := by
  rw [distanceBits, Nat.shiftRight_eq_div_pow]

/-- The formula of a long code in quotients and remainders (30_encoding.md R85). -/
theorem longDistance_eq (npostfix ndirect code extra : Nat) : longDistance npostfix ndirect code extra =
    ((2 + (code - ndirect - 16) / 2 ^ npostfix % 2) * 2 ^ distanceBits npostfix ndirect code - 4 + extra) * 2 ^ npostfix +
      (code - ndirect - 16) % 2 ^ npostfix + ndirect + 1 := by
  simp only [longDistance, Nat.shiftRight_eq_div_pow, Nat.shiftLeft_eq, Nat.one_mul, Nat.and_one_is_mod,
    Nat.and_two_pow_sub_one_eq_mod]

section
variable {s : State} {k l : Nat} (h : s.spells s.distanceCode k l)
include h

theorem shortCode_eq {d : Int} (hd : (shortDistances s.distRing)[k]? = some d) : shortCode k s =
    if d ≤ 0 then .error (.raise .formatDistance "non-positive distance" (s.bitpos + l)) else .ok (s.withDistance k d l) := by
  rw [shortCode, consume_spells h, Res.ok_bind, State.advance_distRing, shortDistance_of_shortDistances hd]
  rfl

theorem directCode_eq (h16 : 16 ≤ k) : directCode k s = .ok (s.withDistance k (k - 15) l) := by
  rw [directCode, consume_spells h, Res.ok_bind, Int.ofNat_sub (by omega)]
  rfl

theorem longCode_eq (hx : s.has (l + distanceBits s.npostfix s.ndirect k)) : longCode k s =
    .ok (s.withDistance k (longDistance s.npostfix s.ndirect k
      (s.inp.field (s.bitpos + l) (distanceBits s.npostfix s.ndirect k)) : Nat) (l + distanceBits s.npostfix s.ndirect k)) := by
  rw [longCode, consume_spells h, Res.ok_bind, State.advance_npostfix, State.advance_ndirect, readBits_eq (State.advance_has hx),
    Res.ok_bind, State.advance_advance]
  rfl

end

/-! ### The rows -/

/-- A distance row runs in the distance phase. -/
theorem exec_distanceRow {s : State} (hs : s.state = .commandLoop) (hp : s.cmdPhase = .distance) {i : Instr}
    (hi : guardOf i = .phase .distance) : exec i s = deliver s (elem i s) :=
  exec_of_admits hi (by simp [Guard.admits, hs, hp])

namespace Distances

/-- Settles O39: a short row is its effect, by the sign of the distance. -/
theorem shortDistanceRows : Obligations.ShortDistanceRows := by
  intro s k l i d hs hp hi hd h
  have hk : k < 16 := (List.getElem?_eq_some_iff.mp hi).1
  have hrow : symbolRow (.distance 0) k = some i := by simpa [symbolRow, hk] using hi
  have heffect : exec i s = deliver s (shortCode k s) := by
    rw [exec_symbolRow hrow (by simp [alphabetGuard, Guard.admits, hs, hp]), symbolEffect, if_pos hk]
  rw [heffect, shortCode_eq h hd]
  refine ⟨fun hpos => ?_, fun hneg => ?_⟩
  · rw [if_neg (Int.not_le.mpr hpos), deliver_ok]
  · rw [if_pos hneg]
    exact raises_deliver ..

end Distances

/-- Settles O40: a direct or long row is its effect; the distance is the formula in the state's parameters. -/
theorem directAndLongDistanceRows : Obligations.DirectAndLongDistanceRows := by
  intro s k l hs hp h
  refine ⟨fun h16 => ?_, fun _ => ?_⟩
  · rw [exec_distanceRow hs hp (i := .distDirect k) rfl, show elem (.distDirect k) s = directCode k s from rfl, directCode_eq h h16,
      deliver_ok]
  · intro x nbits hcode lcode offset hx d
    have hbits : distanceBits s.npostfix s.ndirect k = nbits := distanceBits_eq ..
    rw [exec_distanceRow hs hp (i := .distLong k) rfl, show elem (.distLong k) s = longCode k s from rfl,
      longCode_eq h (hbits ▸ hx), deliver_ok, longDistance_eq, hbits]

/-! ### DIST -/

/-- A symbol that decodes at a cursor in the input is spelled there. -/
theorem State.spells_of_decodeSymbol {s : State} (hs : s.cursorIn) {code : Option PrefixCode} {T : PrefixCode}
    (hcode : code = some T) {v n : Nat} (h : decodeSymbol T s.window = .ok (v, n)) : s.spells code v n := by
  obtain ⟨c, hc⟩ := codeword_of_decodeSymbol h
  have hle := (codewordBits_of_decodeSymbol h).1
  rw [State.window_length] at hle
  refine ⟨?_, T, c, hcode, hc⟩
  simp only [State.cursorIn, State.has] at hs ⊢
  omega

/-- An explicit distance is the effect of the symbol decoded, after the count. -/
theorem opDist_explicit {s u : State} (hi : s.implicitD0 = false) (hu : countSymbol .D s = .ok u) {T : PrefixCode}
    (hT : u.distanceCode = some T) {k l : Nat} (hk : decodeSymbol T u.window = .ok (k, l))
    (hrow : (symbolRow (.distance u.ndirect) k).isSome = true) : opDist s = symbolEffect (.distance u.ndirect) k u := by
  rw [opDist, hi, if_neg Bool.false_ne_true, hu, Res.ok_bind, hT, runSymbol_decoded hk hrow]

/-- Settles O51: an implicit distance reads nothing; an explicit one is a distance row's effect in the state after the count, which
has the parameters and the ring of the state before. -/
theorem distanceOperation : Obligations.DistanceOperation := by
  intro s hs hp
  have hexec : exec .dist s = deliver s (opDist s) := duringPhase_of hs hp _
  rw [hexec]
  refine ⟨fun hi => ?_, fun hi hcursor u tree T k l hu htree hT hk => ?_⟩
  · rw [opDist, hi, if_pos rfl, deliver_ok]
    rfl
  have hframe := (countSymbol_runs s .D).frame u hu
  have hpostfix : u.npostfix = s.npostfix := hframe.same .npostfix (by simp)
  have hdirect : u.ndirect = s.ndirect := hframe.same .ndirect (by simp)
  have hring : u.distRing = s.distRing := hframe.same .distRing (by simp)
  have hctx : u.distCtx = s.distCtx := (hframe.same .copyLen (by simp)).2
  have hcode : u.distanceCode = some T := by simp [State.distanceCode, hctx, htree, hT]
  have hspells := State.spells_of_decodeSymbol ((countSymbol_runs s .D).cursor hcursor u hu) hcode hk
  refine ⟨fun d h16 hd => ?_, fun h16 hlt => ?_, fun hle h519 => ?_⟩
  · rw [opDist_explicit hi hu hcode hk (symbolRow_isSome (by simp only [alphabetBound]; omega)), symbolEffect, if_pos h16,
      shortCode_eq hspells (hring.symm ▸ hd)]
    refine ⟨fun hpos => ?_, fun hneg => ?_⟩
    · rw [if_neg (Int.not_le.mpr hpos), deliver_ok]
    · rw [if_pos hneg]
      exact raises_deliver ..
  · have h16' : ¬k < 16 := Nat.not_lt.mpr h16
    rw [opDist_explicit hi hu hcode hk (by simp [symbolRow, h16', hdirect, hlt]), symbolEffect, if_neg h16',
      if_pos (hdirect.symm ▸ hlt), directCode_eq hspells h16, deliver_ok]
  · intro x nbits offset d hx
    have hbits : distanceBits u.npostfix u.ndirect k = nbits := by rw [hpostfix, hdirect]; exact distanceBits_eq ..
    rw [opDist_explicit hi hu hcode hk (symbolRow_isSome (by simp only [alphabetBound]; omega)), symbolEffect,
      if_neg (by omega), if_neg (by omega), longCode_eq hspells (hbits ▸ hx), deliver_ok, longDistance_eq, hbits, hpostfix,
      hdirect, hframe.inp]

end Sys2Proof.Machine
end

section
/-! Obligation O57. A context map: the inverse move-to-front, and the map that a list of symbols spells (42_metablock.md R147 to R153;
30_encoding.md R92). -/

namespace Sys2Proof.Machine

/-! ### The inverse move-to-front -/

/-- One step takes an entry to the front, the entries before it one place back (42_metablock.md R152). -/
theorem moveToFront_step {mtf : List Nat} {idx val : Nat} (h : mtf[idx]? = some val) (map : List Nat) :
    ∃ moved : List Nat, moveToFront mtf (idx :: map) = val :: moveToFront moved map ∧ moved.length = mtf.length ∧
      moved[0]? = some val ∧ (∀ j, j < idx → moved[j + 1]? = mtf[j]?) ∧ ∀ j, idx < j → moved[j]? = mtf[j]? := by
  obtain ⟨hlt, rfl⟩ := List.getElem?_eq_some_iff.mp h
  refine ⟨mtf[idx] :: (mtf.take idx ++ mtf.drop (idx + 1)), by simp [moveToFront, List.getD, h], by simp; omega, rfl,
    fun j hj => ?_, fun j hj => ?_⟩
  · rw [List.getElem?_cons_succ, List.getElem?_append_left (by simp; omega), List.getElem?_take_of_lt hj]
  · obtain ⟨j, rfl⟩ := Nat.exists_eq_add_of_le' (show 1 ≤ j by omega)
    rw [List.getElem?_cons_succ, List.getElem?_append_right (by simp; omega), List.getElem?_drop, List.length_take]
    congr 1
    omega

/-! ### The symbols of a context map -/

/-- The entries that a context-map symbol writes with its extra bits: a zero, a run of zeros, a value (30_encoding.md R92). -/
def mapEntries (rlemax : Nat) (p : Nat × Nat) : List Nat :=
  if p.1 = 0 then [0] else if p.1 ≤ rlemax then List.replicate (2 ^ p.1 + p.2) 0 else [p.1 - rlemax]

/-- The bits of a context-map symbol with its extra bits. -/
def mapBits (code : PrefixCode) (rlemax : Nat) (p : Nat × Nat) : Bits :=
  (codewordBits code p.1).getD [] ++ if p.1 ≤ rlemax then bitsOf p.1 p.2 else []

theorem mapEntries_pos (rlemax : Nat) (p : Nat × Nat) : 0 < (mapEntries rlemax p).length := by
  unfold mapEntries
  split
  · simp
  split
  · have := Nat.two_pow_pos p.1
    simp
  · simp

theorem length_le_mapEntries (rlemax : Nat) (items : List (Nat × Nat)) :
    items.length ≤ ((items.map (mapEntries rlemax)).flatten).length := by
  induction items with
  | nil => simp
  | cons p items ih =>
    have := mapEntries_pos rlemax p
    simp only [List.map_cons, List.flatten_cons, List.length_append, List.length_cons]
    omega

/-- What the symbols of a context map need of their code: it is a prefix code over an alphabet of context-map symbols. -/
structure MapCode (code : PrefixCode) : Prop where
  valid : validCode code.length code = true
  bound : code.length ≤ 272

/-- The effect of a context-map symbol whose bits stand at the cursor and whose entries have room. -/
theorem contextMapSymbol_writes {s : State} {p : Nat × Nat} {l : Nat} (hspells : s.spells (some s.work.lens) p.1 l)
    (hextra : p.1 ≤ s.work.rlemax → s.has (l + p.1) ∧ s.inp.field (s.bitpos + l) p.1 = p.2)
    (hroom : s.work.map.length + (mapEntries s.work.rlemax p).length ≤ s.work.mapSize) :
    symbolEffect (.contextMap s.work.rlemax) p.1 s = .ok { s with
      bitpos := s.bitpos + (l + if p.1 ≤ s.work.rlemax then p.1 else 0)
      work := { s.work with map := s.work.map ++ mapEntries s.work.rlemax p } } := by
  unfold mapEntries at hroom ⊢
  simp only [symbolEffect]
  split
  · rw [mapZero, ← ‹p.1 = 0›, consume_spells hspells]
    simp [*, State.advance]
  split
  · obtain ⟨hhas, hx⟩ := hextra ‹_›
    rw [if_neg ‹_›, if_pos ‹_›, List.length_replicate] at hroom
    rw [mapRun, consume_spells hspells, Res.ok_bind, readBits_eq (State.advance_has hhas)]
    simp [State.advance, Nat.shiftLeft_eq, hx, Nat.not_lt.mpr hroom, Nat.add_assoc]
  · rw [mapValue, consume_spells hspells]
    simp [State.advance]

end Sys2Proof.Machine
end

section
/-! Obligation O57, continued: a context map of several trees is what its symbols write, then the move-to-front where its flag is set
(42_metablock.md R148 to R152). -/

namespace Sys2Proof.Machine

/-- One context-map symbol, read from its bits. -/
theorem runSymbol_contextMap {s : State} (hcode : MapCode s.work.lens) {p : Nat × Nat}
    (hp : (codeword s.work.lens p.1).isSome = true ∧ (p.1 ≤ s.work.rlemax → p.2 < 2 ^ p.1))
    (hroom : s.work.map.length + (mapEntries s.work.rlemax p).length ≤ s.work.mapSize)
    (hbits : s.stands (mapBits s.work.lens s.work.rlemax p)) :
    runSymbol (.contextMap s.work.rlemax) (some s.work.lens) s = .ok { s with
      bitpos := s.bitpos + (mapBits s.work.lens s.work.rlemax p).length
      work := { s.work with map := s.work.map ++ mapEntries s.work.rlemax p } } := by
  obtain ⟨hsome, hx⟩ := hp
  obtain ⟨⟨l, c⟩, hc⟩ := Option.isSome_iff_exists.mp hsome
  have hword : codewordBits s.work.lens p.1 = some (bitsOf l c).reverse := by simp [codewordBits, hc]
  have hl : l ≤ 15 := by
    obtain rfl | hl := codeword_length hc
    · decide
    · exact (validCode_iff.mp hcode.valid).2.1 l hl
  have hlength : (mapBits s.work.lens s.work.rlemax p).length = l + if p.1 ≤ s.work.rlemax then p.1 else 0 := by
    rw [mapBits, hword]
    split <;> simp
  have hhas := hbits.1
  rw [mapBits, hword] at hbits
  obtain ⟨hfirst, hrest⟩ := State.stands_append (s := s) (t := s.advance l) hbits rfl (by simp)
  obtain ⟨rest, hrest'⟩ := hfirst.window (by simp; omega)
  have hdecode : decodeSymbol s.work.lens s.window = .ok (p.1, l) := by
    simpa [hrest'] using decodeSymbol_codewordBits hcode.valid hword rest
  have hbound : p.1 < 272 := (codeword_lt hc).trans_le hcode.bound
  have hspells : s.spells (some s.work.lens) p.1 l := ⟨by simpa using hfirst.1, _, c, rfl, hc⟩
  rw [runSymbol_decoded hdecode (symbolRow_isSome (a := .contextMap _) hbound), hlength]
  refine contextMapSymbol_writes hspells (fun hle => ?_) hroom
  rw [hlength, if_pos hle] at hhas
  rw [if_pos hle] at hrest
  exact ⟨hhas, hrest.peek (hx hle)⟩

/-- The loop over the symbols of a context map, which stops when the map is full (42_metablock.md R149). -/
theorem iterateWhile_contextMap {items : List (Nat × Nat)} {n : Nat} {s : State} (hcode : MapCode s.work.lens)
    (hitems : ∀ p ∈ items, (codeword s.work.lens p.1).isSome = true ∧ (p.1 ≤ s.work.rlemax → p.2 < 2 ^ p.1))
    (hfull : s.work.map.length + ((items.map (mapEntries s.work.rlemax)).flatten).length = s.work.mapSize)
    (hn : items.length ≤ n) (hbits : s.stands ((items.map (mapBits s.work.lens s.work.rlemax)).flatten)) :
    iterateWhile n (fun t => decide (t.work.map.length < t.work.mapSize))
      (fun t => runSymbol (.contextMap t.work.rlemax) (some t.work.lens) t) s = .ok { s with
        bitpos := s.bitpos + ((items.map (mapBits s.work.lens s.work.rlemax)).flatten).length
        work := { s.work with map := s.work.map ++ (items.map (mapEntries s.work.rlemax)).flatten } } := by
  induction items generalizing n s with
  | nil =>
    have hstop : ¬s.work.map.length < s.work.mapSize := by simp at hfull; omega
    cases n with
    | zero => simp [iterateWhile]
    | succ n => simp [iterateWhile, hstop]
  | cons p items ih =>
    obtain ⟨n, rfl⟩ := Nat.exists_eq_add_of_le' (show 1 ≤ n from Nat.le_trans (by simp) hn)
    simp only [List.map_cons, List.flatten_cons, List.length_append] at hfull hbits ⊢
    have hpos := mapEntries_pos s.work.rlemax p
    let t : State := { s with
      bitpos := s.bitpos + (mapBits s.work.lens s.work.rlemax p).length
      work := { s.work with map := s.work.map ++ mapEntries s.work.rlemax p } }
    obtain ⟨hfirst, hrest⟩ := State.stands_append (s := s) (t := t) hbits rfl rfl
    have hread : runSymbol (.contextMap s.work.rlemax) (some s.work.lens) s = .ok t :=
      runSymbol_contextMap hcode (hitems p (by simp)) (by omega) hfirst
    rw [iterateWhile, if_pos (by simp; omega), hread, Res.ok_bind, ih (s := t) hcode (fun q hq => hitems q (by simp [hq]))
      (by simp only [t, List.length_append]; omega) (by simpa using hn) hrest]
    simp [t, Nat.add_assoc]

/-- The move-to-front flag, read from its bit (42_metablock.md R152). -/
theorem runElement_imtf {s : State} {b : Bool} (h : s.stands [b]) : runElement (.field .imtf) s = .ok { s with
    bitpos := s.bitpos + 1, work := { s.work with map := if b then moveToFront (List.range 256) s.work.map else s.work.map } } := by
  obtain ⟨hhas, hbits⟩ := h
  cases b with
  | false =>
    rw [runElement_row (f := .imtf) (r := bare [0] .cmapImtf0) (by simp [fieldRows]) hhas (by decide) hbits]
    exact skip_eq hhas
  | true =>
    rw [runElement_row (f := .imtf) (r := bare [1] .cmapImtf1) (by simp [fieldRows]) hhas (by decide) hbits]
    exact applyMoveToFront_eq hhas

/-- A context map of several trees, from the bits of its symbols and of its flag. -/
theorem readContextMap_eq {s a b : State} {size ntrees : Nat} {items : List (Nat × Nat)} {imtf : Bool} (hn : ntrees ≤ 256)
    (ha : runElement (.field .rlemax) s = .ok a) (hb : readPrefixCode (ntrees + a.work.rlemax) a = .ok b)
    (hitems : ∀ p ∈ items, (codeword b.work.lens p.1).isSome = true ∧ (p.1 ≤ a.work.rlemax → p.2 < 2 ^ p.1))
    (hsize : ((items.map (mapEntries a.work.rlemax)).flatten).length = size)
    (hbits : b.stands ((items.map (mapBits b.work.lens a.work.rlemax)).flatten ++ [imtf])) :
    readContextMap size ntrees s = .ok { b with
      bitpos := b.bitpos + ((items.map (mapBits b.work.lens a.work.rlemax)).flatten ++ [imtf]).length
      work := { b.work with
        mapSize := size
        map := if imtf then moveToFront (List.range 256) (items.map (mapEntries a.work.rlemax)).flatten
          else (items.map (mapEntries a.work.rlemax)).flatten } } := by
  obtain ⟨hvalid, hframe⟩ := readPrefixCode_spec _ a b hb
  have hrlemax : b.work.rlemax = a.work.rlemax := hframe.same .rlemax (by decide)
  have h16 : a.work.rlemax ≤ 16 := rlemax_spec s a ha
  have hlength := (validCode_iff.mp hvalid).1
  have hcode : MapCode b.work.lens := ⟨hlength ▸ hvalid, by omega⟩
  rw [← hrlemax] at hitems hsize hbits ⊢
  let t : State := { b with work := { b.work with mapSize := size, map := [] } }
  let u : State := { t with
    bitpos := b.bitpos + ((items.map (mapBits b.work.lens b.work.rlemax)).flatten).length
    work := { t.work with map := (items.map (mapEntries b.work.rlemax)).flatten } }
  obtain ⟨hsymbols, hflag⟩ := State.stands_append (s := b) (t := u) hbits rfl rfl
  have hcount := length_le_mapEntries b.work.rlemax items
  have hloop : iterateWhile size (fun t => decide (t.work.map.length < t.work.mapSize))
      (fun t => runSymbol (.contextMap t.work.rlemax) (some t.work.lens) t) t = .ok u :=
    iterateWhile_contextMap (s := t) hcode hitems (by simpa [t] using hsize) (by omega) hsymbols
  have hparts : readContextMap size ntrees s = iterateWhile size (fun t => decide (t.work.map.length < t.work.mapSize))
      (fun t => runSymbol (.contextMap t.work.rlemax) (some t.work.lens) t) t >>= runElement (.field .imtf) := by
    rw [readContextMap, ha, Res.ok_bind, hb]
    rfl
  rw [hparts, hloop, Res.ok_bind, runElement_imtf hflag]
  simp [u, t, Nat.add_assoc]

/-! ### The map of any number of trees -/

theorem contextMap_of_count {s a : State} (size : Nat) (ha : runElement (.field .varlen) s = .ok a)
    (halloc : AllocSite.contextMap ∉ s.params.allocFail) : contextMap size s =
      if 2 ≤ a.work.count + 1 then readContextMap size (a.work.count + 1) a >>= fun b =>
        .ok { b with work := { b.work with count := a.work.count } }
      else .ok { a with work := { a.work with map := List.replicate size 0 } } := by
  have hparams : a.params = s.params := ((runElement_runs _ s).frame a ha).params
  rw [contextMap, ha, Res.ok_bind, allocate_eq _ (hparams.symm ▸ halloc)]
  rfl

/-- Settles O57: the move-to-front step by step, and the map from its parts. -/
theorem moveToFrontKeepsTheRange : Obligations.MoveToFrontKeepsTheRange := by
  refine ⟨fun n map h256 hmap => moveToFront_spec (fun j hj => ?_) hmap, fun _ => rfl, fun mtf map idx val h => moveToFront_step h map,
    fun s a size ha halloc => ⟨fun h0 => ?_, fun h0 b hb => ?_⟩, fun s a b size ntrees items imtf _ hn ha hb => ?_⟩
  · rw [List.getD_eq_getElem _ _ (by simp; omega)]
    simpa using hj
  · rw [contextMap_of_count size ha halloc, if_neg (by omega)]
  · rw [contextMap_of_count size ha halloc, if_pos (by omega), hb, Res.ok_bind]
  · exact fun hitems hsize hhas hbits => readContextMap_eq hn ha hb hitems hsize ⟨hhas, hbits⟩

end Sys2Proof.Machine
end

section
/-! SUPPORT. The same computation on a longer input: where it completes, it completes in the same way with more bytes behind the
input, because no read looks at a bit past the end (40_bitreader.md R97, R101). -/

namespace Sys2Proof.Machine

/-- `s` with the input `m`. -/
def State.onInput (s : State) (m : Memory) : State := { s with inp := m }

/-- The space `m` begins with the bytes of the space `a`. -/
structure Memory.Begins (a m : Memory) : Prop where
  size : a.size ≤ m.size
  read : ∀ i < a.size, m.read i = a.read i

/-- The input `m` begins with the input of `s`, and bytes after the stream are ignored. -/
def State.growsTo (s : State) (m : Memory) : Prop := s.inp.Begins m ∧ s.params.trailing = .ignore

/-- Where the computation `r` completes, `r'` does the same on the input `m`. -/
def Carries (m : Memory) (r r' : Res State) : Prop := Ensures (fun t => t.growsTo m ∧ r' = .ok (t.onInput m)) r

section
variable {m : Memory} {s : State} (h : s.growsTo m)
include h

theorem State.growsTo.inputBits_le : s.inputBits ≤ (s.onInput m).inputBits := Nat.mul_le_mul_left 8 h.1.size

theorem State.growsTo.bit_eq {k : Nat} (hk : k < s.inputBits) : m.bit k = s.inp.bit k := by
  rw [Memory.bit, Memory.bit, h.1.read _ (by simp only [State.inputBits] at hk; omega)]

theorem State.growsTo.field_eq {p n : Nat} (hn : p + n ≤ s.inputBits) : m.field p n = s.inp.field p n := by
  induction n generalizing p with
  | zero => rfl
  | succ n ih => simp only [Memory.field, h.bit_eq (show p < s.inputBits by omega), ih (p := p + 1) (by omega)]

theorem State.growsTo.bits_eq {p n : Nat} (hn : p + n ≤ s.inputBits) : m.bits p n = s.inp.bits p n := by
  induction n generalizing p with
  | zero => rfl
  | succ n ih => simp only [Memory.bits, h.bit_eq (show p < s.inputBits by omega), ih (p := p + 1) (by omega)]

theorem State.growsTo.slice_eq {i n : Nat} (hn : i + n ≤ s.inp.size) : m.slice i n = s.inp.slice i n := by
  induction n generalizing i with
  | zero => rfl
  | succ n ih => simp only [Memory.slice, h.1.read i (by omega), ih (i := i + 1) (by omega)]

/-- The window on the longer input begins with the window. -/
theorem State.growsTo.window_prefix : s.window <+: (s.onInput m).window := by
  have hle := h.inputBits_le
  obtain ⟨k, hk⟩ : ∃ k, min longestElement ((s.onInput m).inputBits - s.bitpos) =
      min longestElement (s.inputBits - s.bitpos) + k := Nat.exists_eq_add_of_le (by omega)
  have hwindow : (s.onInput m).window = m.bits s.bitpos (min longestElement ((s.onInput m).inputBits - s.bitpos)) := rfl
  rw [hwindow, hk, Memory.bits_add]
  by_cases hin : s.bitpos ≤ s.inputBits
  · rw [h.bits_eq (by omega)]
    exact List.prefix_append _ _
  · rw [State.window, Nat.sub_eq_zero_of_le (by omega)]
    exact List.nil_prefix

end

namespace Carries
variable {m : Memory} {r r' q q' : Res State} {f f' : State → Res State}

theorem ok {t : State} (h : t.growsTo m) : Carries m (.ok t) (.ok (t.onInput m)) := (ensures_ok t).mpr ⟨h, rfl⟩

theorem stop (e : Stop) (r' : Res State) : Carries m (.error e) r' := ensures_error e

theorem bind (h : Carries m r r') (hf : ∀ t, t.growsTo m → Carries m (f t) (f' (t.onInput m))) :
    Carries m (r >>= f) (r' >>= f') :=
  Ensures.bind h fun t ⟨ht, hr⟩ => hr ▸ hf t ht

theorem ite {c : Prop} [Decidable c] (h : c → Carries m r r') (h' : ¬c → Carries m q q') :
    Carries m (if c then r else q) (if c then r' else q') := by
  split
  · exact h ‹_›
  · exact h' ‹_›

theorem iterate (hf : ∀ t, t.growsTo m → Carries m (f t) (f (t.onInput m))) (k : Nat) {s : State} (h : s.growsTo m) :
    Carries m (iterate k f s) (iterate k f (s.onInput m)) := by
  induction k generalizing s with
  | zero => exact .ok h
  | succ k ih => exact (hf s h).bind fun t ht => ih ht

theorem iterateWhile (hf : ∀ t, t.growsTo m → Carries m (f t) (f (t.onInput m))) {c : State → Bool}
    (hc : ∀ t, c (t.onInput m) = c t) (k : Nat) {s : State} (h : s.growsTo m) :
    Carries m (iterateWhile k c f s) (iterateWhile k c f (s.onInput m)) := by
  induction k generalizing s with
  | zero => exact .ok h
  | succ k ih =>
    simp only [Machine.iterateWhile, hc]
    exact .ite (fun _ => (hf s h).bind fun t ht => ih ht) fun _ => .ok h

end Carries

theorem State.setTracker_onInput (s : State) (c : Category) (k : Tracker) (m : Memory) :
    (s.setTracker c k).onInput m = (s.onInput m).setTracker c k := by cases c <;> rfl

/-- The bytes appended do not depend on the input. -/
theorem State.appendAll_eq_foldl (s : State) (bs : List Byte) :
    s.appendAll bs = { s with out := bs.foldl Memory.push s.out } := by
  rw [State.appendAll_eq, State.out_appendAll]

theorem State.dictRead_onInput (s : State) (m : Memory) (off n : Nat) : (s.onInput m).dictRead off n = s.dictRead off n := by
  induction n generalizing off with
  | zero => rfl
  | succ n ih => simp only [State.dictRead, ih]; rfl

theorem setTracker_growsTo {m : Memory} {s : State} (h : s.growsTo m) (c : Category) (k : Tracker) :
    (s.setTracker c k).growsTo m := by cases c <;> exact h

theorem Carries.setTracker {m : Memory} {t : State} (h : t.growsTo m) (c : Category) (k : Tracker) :
    Carries m (.ok (t.setTracker c k)) (.ok ((t.onInput m).setTracker c k)) := by
  rw [← State.setTracker_onInput]
  exact .ok (setTracker_growsTo h c k)

/-! ### The decoder -/

theorem walkCode_prefix {T : PrefixCode} {fuel l c : Nat} {bits bits' : Bits} {p : Nat × Nat} (hp : bits <+: bits')
    (h : walkCode T fuel l c bits = .ok p) : walkCode T fuel l c bits' = .ok p := by
  obtain ⟨rest, rfl⟩ := hp
  induction fuel generalizing l c bits with
  | zero => cases h
  | succ fuel ih =>
    cases bits with
    | nil => cases h
    | cons b bs =>
      simp only [walkCode, List.cons_append] at h ⊢
      split at h
      · exact h
      · exact ih h

theorem decodeSymbol_prefix {T : PrefixCode} {bits bits' : Bits} {p : Nat × Nat} (hp : bits <+: bits')
    (h : decodeSymbol T bits = .ok p) : decodeSymbol T bits' = .ok p := by
  unfold decodeSymbol at h ⊢
  split at h
  · exact h
  · exact walkCode_prefix hp h

/-- What decodes decodes in the same way whatever bits follow, valid code or not (40_bitreader.md R97, R101). -/
theorem decode_prefix {c : Ctx} {bits bits' : Bits} {p : Instr × Nat} (hp : bits <+: bits') (h : decode c bits = .ok p) :
    decode c bits' = .ok p := by
  cases c with
  | operation st ph b => exact h
  | entry t v => exact h
  | field f =>
    obtain ⟨r, hr, x, hx, hi, hn, hprefix⟩ := decodeField_ok h
    obtain ⟨rest, rfl⟩ := hprefix.trans hp
    rw [decode, decodeField_row hr hx, ← hi, ← hn]
  | padding k n =>
    simp only [decode] at h ⊢
    split at h <;> cases h
    have hle : n ≤ bits.length := Nat.not_lt.mp ‹_›
    have hlt : ¬bits'.length < n := Nat.not_lt.mpr (hle.trans hp.length_le)
    obtain ⟨rest, rfl⟩ := hp
    rw [if_neg hlt, List.take_append_of_le_length hle]
  | symbol a T =>
    simp only [decode] at h ⊢
    split at h
    · cases h
    · rw [decodeSymbol_prefix hp ‹_›]
      exact h

section
variable {m : Memory} {s : State} (h : s.growsTo m)
include h

theorem runElement_carries {c : Ctx}
    (hrow : ∀ i n, decode c s.window = .ok (i, n) → Carries m (elem i s) (elem i (s.onInput m))) :
    Carries m (runElement c s) (runElement c (s.onInput m)) := by
  intro t ht
  obtain ⟨i, n, hd, he⟩ := runElement_ok ht
  rw [runElement_eq (decode_prefix h.window_prefix hd)]
  exact hrow i n hd t he

theorem runField_carries {f : Field}
    (hrow : ∀ r ∈ fieldRows f, ∀ x, Carries m (elem (r.instr x) s) (elem (r.instr x) (s.onInput m))) :
    Carries m (runElement (.field f) s) (runElement (.field f) (s.onInput m)) :=
  runElement_carries h fun i n hd => by
    obtain ⟨r, hr, x, -, rfl, -⟩ := decodeField_ok hd
    exact hrow r hr x

end

end Sys2Proof.Machine
end

section
/-! SUPPORT. The elements on a longer input: every row of a field, every symbol of an alphabet, padding and the transforms carry
over (40_bitreader.md R96, R101, R102). -/

namespace Sys2Proof.Machine

section
variable {m : Memory} {s : State} (h : s.growsTo m)
include h

theorem skip_carries (n : Nat) : Carries m (skip n s) (skip n (s.onInput m)) :=
  (ensures_skip n s).mpr fun hn => ⟨h, skip_eq (Nat.le_trans hn h.inputBits_le)⟩

theorem readBits_carries (n : Nat) {f f' : Nat × State → Res State}
    (hf : ∀ v t, t.growsTo m → Carries m (f (v, t)) (f' (v, t.onInput m))) :
    Carries m (readBits n s >>= f) (readBits n (s.onInput m) >>= f') := by
  refine Ensures.bind (fun p hp => hp) fun p hp => ?_
  obtain ⟨v, t⟩ := p
  obtain ⟨hn, rfl, rfl⟩ := readBits_ok hp
  rw [readBits_eq (s := s.onInput m) (Nat.le_trans hn h.inputBits_le)]
  have hfield : (s.onInput m).inp.field (s.onInput m).bitpos n = s.inp.field s.bitpos n := h.field_eq hn
  rw [hfield]
  exact hf _ (s.advance n) h

theorem consume_carries (code : Option PrefixCode) (sym : Nat) :
    Carries m (consume code sym s) (consume code sym (s.onInput m)) := by
  unfold consume
  split
  · exact .stop _ _
  split
  · exact .stop _ _
  · exact skip_carries h _

theorem allocate_carries (site : AllocSite) (k : ErrorKind) :
    Carries m (allocate site k s) (allocate site k (s.onInput m)) :=
  .ite (fun _ => .stop _ _) fun _ => .ok h

theorem padding_carries (k : PadKind) (n v : Nat) : Carries m (padding k n v s) (padding k n v (s.onInput m)) :=
  (skip_carries h n).bind fun _ ht => .ite (fun _ => .ok ht) fun _ => .stop _ _


theorem alignToByte_carries (k : PadKind) : Carries m (alignToByte k s) (alignToByte k (s.onInput m)) := by
  intro t ht
  have hfield : (s.onInput m).inp.field (s.onInput m).bitpos (s.onInput m).padBits = s.inp.field s.bitpos s.padBits :=
    h.field_eq (alignToByte_ok ht).1
  rw [alignToByte, hfield]
  exact padding_carries h k _ _ t ht

/-- What bytes follow matters only where trailing bytes are refused (40_bitreader.md R102). -/
theorem finalPadding_carries : Carries m (finalPadding s) (finalPadding (s.onInput m)) := by
  refine (alignToByte_carries h .final).bind fun t ht => ?_
  have hignore : (t.onInput m).params.trailing = .ignore := ht.2
  simp only [ht.2, hignore, reduceCtorEq, false_and, if_false]
  exact .ok ht

theorem endOfMetaBlock_carries : Carries m (endOfMetaBlock s) (endOfMetaBlock (s.onInput m)) :=
  .ite (fun _ => (finalPadding_carries h).bind fun _ ht => .ok ht) fun _ => .ok h

theorem postInsert_carries : Carries m (postInsert s) (postInsert (s.onInput m)) :=
  .ite (fun _ => endOfMetaBlock_carries h) fun _ => .ok h

theorem endOfCommand_carries : Carries m (endOfCommand s) (endOfCommand (s.onInput m)) :=
  .ite (fun _ => endOfMetaBlock_carries h) fun _ => .ok h

theorem lastEmptyHeader_carries : Carries m (lastEmptyHeader s) (lastEmptyHeader (s.onInput m)) :=
  (skip_carries h 2).bind fun t ht =>
    (finalPadding_carries (s := { t with isLast := true, isLastEmpty := true }) ht).bind fun _ hu => .ok hu

theorem lengthNibble_carries (x : Nat) : Carries m (lengthNibble x s) (lengthNibble x (s.onInput m)) :=
  (skip_carries h 4).bind fun _ ht => .ite (fun _ => .stop _ _) fun _ => .ite (fun _ => .ok ht) fun _ => .ok ht

theorem dispatchBody_carries : Carries m (dispatchBody s) (dispatchBody (s.onInput m)) := by
  unfold dispatchBody
  exact .ite (fun _ => (allocate_carries (s := { s with remaining := s.mlen }) h _ _).bind fun t ht =>
    (allocate_carries ht _ _).bind fun u hu => .ok hu) fun _ => .ok h

theorem skipLengthByte_carries (b : Nat) : Carries m (skipLengthByte b s) (skipLengthByte b (s.onInput m)) :=
  (skip_carries h 8).bind fun _ ht => .ite (fun _ => .stop _ _) fun _ => .ok ht

theorem simpleSymbol_carries : Carries m (simpleSymbol s) (simpleSymbol (s.onInput m)) :=
  readBits_carries h _ fun _ _ ht => .ite (fun _ => .stop _ _) fun _ => .ok ht

theorem simpleSymbols_carries (n : Nat) : Carries m (simpleSymbols n s) (simpleSymbols n (s.onInput m)) :=
  (skip_carries h 2).bind fun t ht => (Carries.iterate (fun _ => simpleSymbol_carries) n
    (s := { t with work := { t.work with syms := [] } }) ht).bind fun u hu =>
    .ite (fun _ => by split <;> exact .ok hu) fun _ => .stop _ _

theorem codeLengthLength_carries (n v : Nat) :
    Carries m (codeLengthLength n v s) (codeLengthLength n v (s.onInput m)) := by
  rw [codeLengthLength_eq, codeLengthLength_eq]
  refine (skip_carries h n).bind fun t ht => ?_
  have hwork : (t.onInput m).work = t.work := rfl
  rw [hwork]
  split
  · exact .stop _ _
  · exact .ok ht

theorem repeatLength_carries (newLen eb : Nat) :
    Carries m (repeatLength newLen eb s) (repeatLength newLen eb (s.onInput m)) := by
  rw [repeatLength_eq, repeatLength_eq]
  exact readBits_carries h eb fun _ _ ht => .ite (fun _ => .stop _ _) fun _ => .ok ht

theorem switchType_carries (c : Category) (v : Nat) : Carries m (switchType c v s) (switchType c v (s.onInput m)) :=
  (consume_carries h _ v).bind fun _ ht => .setTracker ht c _

theorem renewCount_carries (c : Category) (v : Nat) : Carries m (renewCount c v s) (renewCount c v (s.onInput m)) :=
  (consume_carries h _ v).bind fun _ ht => readBits_carries ht _ fun _ _ hu => .setTracker hu c _

theorem literal_carries (b : Byte) : Carries m (literal b s) (literal b (s.onInput m)) :=
  (consume_carries h _ _).bind fun t ht => .ite
    (fun _ => postInsert_carries (s := { t.append b with remaining := t.remaining - 1, insertLen := t.insertLen - 1 }) ht)
    fun _ => .ok ht

theorem command_carries (cell sym : Nat) : Carries m (command cell sym s) (command cell sym (s.onInput m)) :=
  (consume_carries h _ sym).bind fun _ ht =>
    (Carries.bind (readBits_carries ht _ fun _ _ hu => .ok hu) fun _ hu =>
    Carries.bind (readBits_carries hu _ fun _ _ hv => .ok hv) fun v hv => .ite (fun _ => .stop _ _) fun _ =>
    .ite (fun _ => .ok hv) fun _ => postInsert_carries (s := { v with implicitD0 := decide (cell ≤ 1) }) hv)

theorem selectWord_carries (len : Nat) : Carries m (selectWord len s) (selectWord len (s.onInput m)) := by
  unfold selectWord
  dsimp only
  rw [State.dictRead_onInput]
  have hwork : (s.onInput m).work = s.work := rfl
  rw [hwork]
  split
  · exact .ok h
  · exact .stop _ _

theorem wordTransform_carries (tid : Nat) : Carries m (wordTransform tid s) (wordTransform tid (s.onInput m)) := by
  unfold wordTransform
  have hwork : (s.onInput m).work = s.work := rfl
  rw [hwork]
  split
  · exact .ok h
  · exact .stop _ _

/-- The symbols of every alphabet. -/
theorem symbolEffect_carries (a : Alphabet) (v : Nat) :
    Carries m (symbolEffect a v s) (symbolEffect a v (s.onInput m)) := by
  cases a with
  | codeLength =>
    exact .ite (fun _ => (consume_carries h _ v).bind fun _ ht => .ok ht) fun _ =>
      .ite (fun _ => (consume_carries h _ 16).bind fun t ht => repeatLength_carries ht _ 2) fun _ =>
      (consume_carries h _ 17).bind fun t ht => repeatLength_carries ht 0 3
  | blockType c => exact switchType_carries h c v
  | blockCount c => exact renewCount_carries h c v
  | contextMap r =>
    exact .ite (fun _ => (consume_carries h _ 0).bind fun _ ht => .ok ht) fun _ =>
      .ite (fun _ => (consume_carries h _ v).bind fun _ ht => readBits_carries ht v fun _ _ hu =>
        .ite (fun _ => .stop _ _) fun _ => .ok hu) fun _ => (consume_carries h _ v).bind fun _ ht => .ok ht
  | literal => exact literal_carries h _
  | command => exact command_carries h _ v
  | distance d =>
    exact .ite (fun _ => (consume_carries h _ v).bind fun _ ht => .ite (fun _ => .stop _ _) fun _ => .ok ht) fun _ =>
      .ite (fun _ => (consume_carries h _ v).bind fun _ ht => .ok ht) fun _ =>
      (consume_carries h _ v).bind fun _ ht => readBits_carries ht _ fun _ _ hu => .ok hu

theorem runSymbol_carries (a : Alphabet) (code : Option PrefixCode) :
    Carries m (runSymbol a code s) (runSymbol a code (s.onInput m)) := by
  unfold runSymbol
  split
  · refine runElement_carries h fun i n hd => ?_
    simp only [decode] at hd
    split at hd
    · cases hd
    split at hd <;> cases hd
    rw [elem_symbolRow ‹_›, elem_symbolRow ‹_›]
    exact symbolEffect_carries h a _
  · exact .stop _ _

/-- Every field of the grammar. -/
theorem field_carries (f : Field) : Carries m (runElement (.field f) s) (runElement (.field f) (s.onInput m)) := by
  refine runField_carries h ?_
  cases f with
  | mlen =>
    simp only [fieldRows, wide, List.forall_mem_singleton]
    exact fun x => lengthNibble_carries h x
  | mskiplen =>
    simp only [fieldRows, wide, List.forall_mem_singleton]
    exact fun x => skipLengthByte_carries h x
  | wbits =>
    simp only [fieldRows, bare, List.forall_mem_cons, List.not_mem_nil, IsEmpty.forall_iff, implies_true, and_true]
    have hrow (n w : Nat) : Carries m (setWindow n w s) (setWindow n w (s.onInput m)) :=
      (skip_carries h n).bind fun _ ht => .ok ht
    exact ⟨fun _ => hrow 1 16, fun _ => hrow 4 18, fun _ => hrow 4 19, fun _ => hrow 4 20, fun _ => hrow 4 21,
      fun _ => hrow 4 22, fun _ => hrow 4 23, fun _ => hrow 4 24, fun _ => hrow 7 17, fun _ => largeWindow_stops s 7,
      fun _ => hrow 7 10, fun _ => hrow 7 11, fun _ => hrow 7 12, fun _ => hrow 7 13, fun _ => hrow 7 14, fun _ => hrow 7 15⟩
  | mhdr =>
    simp only [fieldRows, bare, List.forall_mem_cons, List.not_mem_nil, IsEmpty.forall_iff, implies_true, and_true]
    exact ⟨fun _ => lastEmptyHeader_carries h, fun _ => (skip_carries h 2).bind fun _ ht => .ok ht,
      fun _ => (skip_carries h 1).bind fun _ ht => .ok ht⟩
  | isUncompressed =>
    simp only [fieldRows, bare, List.forall_mem_cons, List.not_mem_nil, IsEmpty.forall_iff, implies_true, and_true]
    have hflag (b : Bool) : Carries m (uncompressedFlag b s) (uncompressedFlag b (s.onInput m)) :=
      (skip_carries h 1).bind fun t ht => dispatchBody_carries (s := { t with isUncompressed := b }) ht
    exact ⟨fun _ => hflag false, fun _ => hflag true⟩
  | reserved =>
    simp only [fieldRows, bare, List.forall_mem_cons, List.not_mem_nil, IsEmpty.forall_iff, implies_true, and_true]
    exact ⟨fun _ => skip_carries h 1, fun _ => (skip_carries h 1).bind fun _ _ => .stop _ _⟩
  | imtf =>
    simp only [fieldRows, bare, List.forall_mem_cons, List.not_mem_nil, IsEmpty.forall_iff, implies_true, and_true]
    exact ⟨fun _ => skip_carries h 1, fun _ => (skip_carries h 1).bind fun _ ht => .ok ht⟩
  | nsym =>
    simp only [fieldRows, bare, List.forall_mem_cons, List.not_mem_nil, IsEmpty.forall_iff, implies_true, and_true]
    exact ⟨fun _ => simpleSymbols_carries h 1, fun _ => simpleSymbols_carries h 2, fun _ => simpleSymbols_carries h 3,
      fun _ => simpleSymbols_carries h 4⟩
  | clcl =>
    simp only [fieldRows, bare, List.forall_mem_cons, List.not_mem_nil, IsEmpty.forall_iff, implies_true, and_true]
    and_intros <;> exact fun _ => codeLengthLength_carries h _ _
  | mnibbles | mskipbytes | varlen | npostfix | ndirect | cmode | rlemax | hskip | treeSelect =>
    simp only [fieldRows, bare, wide, List.forall_mem_cons, List.not_mem_nil, IsEmpty.forall_iff, implies_true, and_true]
    and_intros <;> exact fun _ => (skip_carries h _).bind fun _ ht => .ok ht


theorem runPadding_carries (k : PadKind) (n : Nat) :
    Carries m (runElement (.padding k n) s) (runElement (.padding k n) (s.onInput m)) :=
  runElement_carries h fun i _ hd => by
    simp only [decode] at hd
    split at hd <;> cases hd
    exact padding_carries h k n _

theorem runTransform_carries (tid : Nat) :
    Carries m (runElement (.entry .transform tid) s) (runElement (.entry .transform tid) (s.onInput m)) := by
  by_cases hlt : tid < 121
  · rw [runElement_transform hlt, runElement_transform hlt]
    exact wordTransform_carries h tid
  · rw [runElement_entry (i := .transformReserved tid) (by simp [entryRow, hlt])]
    exact .stop _ _

end

end Sys2Proof.Machine
end

section
/-! Obligation O13. The operations on a longer input, and a step that completes (40_bitreader.md R97, R101, R102;
70_reset_and_hazards.md R232, R233). -/

namespace Sys2Proof.Machine

section
variable {m : Memory} {s : State} (h : s.growsTo m)
include h

theorem readSimple_carries : Carries m (readSimple s) (readSimple (s.onInput m)) :=
  (field_carries h .nsym).bind fun _ ht => .ite (fun _ => field_carries ht .treeSelect) fun _ => .ok ht

theorem checkCodeLengths_carries : Carries m (checkCodeLengths s) (checkCodeLengths (s.onInput m)) :=
  .ite (fun _ => .ok h) fun _ => .stop _ _

theorem checkSpace_carries : Carries m (checkSpace s) (checkSpace (s.onInput m)) := .ite (fun _ => .ok h) fun _ => .stop _ _

theorem readComplex_carries : Carries m (readComplex s) (readComplex (s.onInput m)) :=
  (Carries.iterateWhile (fun _ ht => field_carries ht .clcl) (fun _ => rfl) _ h).bind fun _ ht =>
    (checkCodeLengths_carries ht).bind fun _ hu =>
    (Carries.iterateWhile (f := fun t => runSymbol .codeLength (some t.work.cl) t) (fun _ hv => runSymbol_carries hv _ _)
      (fun _ => rfl) _ hu).bind fun _ hv => checkSpace_carries hv

theorem readPrefixCode_carries (A : Nat) : Carries m (readPrefixCode A s) (readPrefixCode A (s.onInput m)) :=
  (field_carries (s := { s with work := { s.work with alphabet := A } }) h .hskip).bind fun _ ht =>
    .ite (fun _ => readSimple_carries ht) fun _ => readComplex_carries ht

theorem readBlockCount_carries (c : Category) : Carries m (readBlockCount c s) (readBlockCount c (s.onInput m)) :=
  runSymbol_carries h _ _

theorem blockSwitch_carries (c : Category) : Carries m (blockSwitch c s) (blockSwitch c (s.onInput m)) :=
  (runSymbol_carries h _ _).bind fun _ ht => readBlockCount_carries ht c

theorem countSymbol_carries (c : Category) : Carries m (countSymbol c s) (countSymbol c (s.onInput m)) := by
  unfold countSymbol
  exact .ite (fun _ => .ite (fun _ => (blockSwitch_carries h c).bind fun _ ht => .setTracker ht c _)
    fun _ => .setTracker h c _) fun _ => .ok h

theorem blockCodes_carries (c : Category) (n : Nat) : Carries m (blockCodes c n s) (blockCodes c n (s.onInput m)) :=
  (allocate_carries h _ _).bind fun _ ht => (readPrefixCode_carries ht _).bind fun u hu => by
    rw [← State.setTracker_onInput]
    refine (readPrefixCode_carries (setTracker_growsTo hu c _) 26).bind fun v hv => ?_
    rw [← State.setTracker_onInput]
    exact readBlockCount_carries (setTracker_growsTo hv c _) c

theorem blockHeader_carries (c : Category) : Carries m (blockHeader c s) (blockHeader c (s.onInput m)) := by
  rw [blockHeader_eq, blockHeader_eq]
  refine (field_carries h .varlen).bind fun t ht => ?_
  rw [← State.setTracker_onInput]
  exact .ite (fun _ => blockCodes_carries (setTracker_growsTo ht c _) c _) fun _ => .ok (setTracker_growsTo ht c _)

theorem readContextMap_carries (size ntrees : Nat) :
    Carries m (readContextMap size ntrees s) (readContextMap size ntrees (s.onInput m)) :=
  (field_carries h .rlemax).bind fun _ ht => (readPrefixCode_carries ht _).bind fun u hu =>
    (Carries.iterateWhile (f := fun t => runSymbol (.contextMap t.work.rlemax) (some t.work.lens) t)
      (fun _ hv => runSymbol_carries hv _ _) (fun _ => rfl) _
      (s := { u with work := { u.work with mapSize := size, map := [] } }) hu).bind fun _ hw => field_carries hw .imtf

theorem contextMap_carries (size : Nat) : Carries m (contextMap size s) (contextMap size (s.onInput m)) :=
  (field_carries h .varlen).bind fun _ ht => (allocate_carries ht _ _).bind fun _ hu =>
    .ite (fun _ => (readContextMap_carries hu size _).bind fun _ hv => .ok hv) fun _ => .ok hu

theorem contextModes_carries : Carries m (contextModes s) (contextModes (s.onInput m)) :=
  (allocate_carries h _ _).bind fun t ht =>
    .iterate (fun _ hu => field_carries hu .cmode) _ (s := { t with cmode := [] }) ht

theorem distanceParameters_carries : Carries m (distanceParameters s) (distanceParameters (s.onInput m)) :=
  (field_carries h .npostfix).bind fun _ ht => field_carries ht .ndirect

theorem literalMap_carries : Carries m (literalMap s) (literalMap (s.onInput m)) :=
  (contextMap_carries h _).bind fun _ ht => .ok ht

theorem distanceMap_carries : Carries m (distanceMap s) (distanceMap (s.onInput m)) :=
  (contextMap_carries h _).bind fun _ ht => .ok ht

theorem literalTree_carries : Carries m (literalTree s) (literalTree (s.onInput m)) :=
  (readPrefixCode_carries h _).bind fun _ ht => .ok ht

theorem commandTree_carries : Carries m (commandTree s) (commandTree (s.onInput m)) :=
  (readPrefixCode_carries h _).bind fun _ ht => .ok ht

theorem distanceTree_carries : Carries m (distanceTree s) (distanceTree (s.onInput m)) :=
  (readPrefixCode_carries h _).bind fun _ ht => .ok ht

theorem treeGroups_carries : Carries m (treeGroups s) (treeGroups (s.onInput m)) :=
  (allocate_carries h _ _).bind fun t ht =>
    (Carries.iterate (fun _ => literalTree_carries) _ (s := { t with htreeL := [], htreeI := [], htreeD := [] }) ht).bind
      fun _ hu => (Carries.iterate (fun _ => commandTree_carries) _ hu).bind
      fun _ hv => .iterate (fun _ => distanceTree_carries) _ hv

theorem opSetup_carries : Carries m (opSetup s) (opSetup (s.onInput m)) :=
  (blockHeader_carries h .L).bind fun _ ha => (blockHeader_carries ha .I).bind fun _ hb =>
    (blockHeader_carries hb .D).bind fun _ hc => (distanceParameters_carries hc).bind fun _ hd =>
    (contextModes_carries hd).bind fun _ he => (literalMap_carries he).bind fun _ hf =>
    (distanceMap_carries hf).bind fun _ hg => (treeGroups_carries hg).bind fun _ hh => .ok hh

/-- The stream header, unless the input is empty and may end the decode at once (70_reset_and_hazards.md R232). -/
theorem opStreamHeader_carries (hempty : ¬(s.inp.size = 0 ∧ s.params.emptyInputOk = true)) :
    Carries m (opStreamHeader s) (opStreamHeader (s.onInput m)) := by
  have hempty' : ¬((s.onInput m).inp.size = 0 ∧ (s.onInput m).params.emptyInputOk = true) := fun ⟨hsize, hok⟩ =>
    hempty ⟨Nat.eq_zero_of_le_zero (hsize ▸ h.1.size), hok⟩
  have hheader : Carries m (opStreamHeader.header s) (opStreamHeader.header (s.onInput m)) := by
    rw [opStreamHeader.header, opStreamHeader.header, if_neg hempty, if_neg hempty']
    exact field_carries h .wbits
  have hdict : (s.onInput m).dict = s.dict := rfl
  rw [opStreamHeader, opStreamHeader, hdict]
  split
  · exact .ite (fun _ => hheader) fun _ => .stop _ _
  · exact hheader

theorem opMhdr_carries : Carries m (opMhdr s) (opMhdr (s.onInput m)) :=
  (field_carries h .mhdr).bind fun _ ht => .ite (fun _ => .ok ht) fun _ => (field_carries ht .mnibbles).bind fun _ hu =>
    .ite (fun _ => .ok hu) fun _ => (Carries.iterate (fun _ hv => field_carries hv .mlen) _ hu).bind fun v hv =>
    .ite (fun _ => (dispatchBody_carries (s := { v with isUncompressed := false }) hv).bind fun _ hw => .ok hw)
      fun _ => (field_carries hv .isUncompressed).bind fun _ hw => .ok hw

theorem skipBytes_carries (n : Nat) : Carries m (skipBytes n s) (skipBytes n (s.onInput m)) := by
  intro t ht
  obtain ⟨hn, rfl⟩ := skipBytes_ok ht
  exact ⟨h, if_pos (hn.trans h.1.size)⟩

theorem readBytes_carries (n : Nat) : Carries m (readBytes n s) (readBytes n (s.onInput m)) := by
  intro t ht
  obtain ⟨hn, bs, hbs, rfl⟩ := readBytes_ok ht
  have hslice : (s.onInput m).inp.slice ((s.onInput m).bitpos / 8) n = some bs := (h.slice_eq hn).trans hbs
  have hn' : (s.onInput m).bitpos / 8 + n ≤ (s.onInput m).inp.size := hn.trans h.1.size
  rw [readBytes, if_pos hn', hslice, State.appendAll_eq_foldl]
  exact ⟨h, congrArg (fun t => Except.ok (t.advance (8 * n))) (State.appendAll_eq_foldl _ bs)⟩

theorem opMetadata_carries : Carries m (opMetadata s) (opMetadata (s.onInput m)) :=
  (field_carries h .reserved).bind fun _ ht => (field_carries ht .mskipbytes).bind fun _ hu =>
    (Carries.iterate (fun _ hv => field_carries hv .mskiplen) _ hu).bind fun _ hv =>
    (runPadding_carries hv _ _).bind fun _ hw => (skipBytes_carries hw _).bind fun _ hx =>
    (endOfMetaBlock_carries hx).bind fun _ hy => .ok hy

theorem opUncompressed_carries : Carries m (opUncompressed s) (opUncompressed (s.onInput m)) :=
  (runPadding_carries h _ _).bind fun _ ht => (readBytes_carries ht _).bind fun u hu =>
    endOfMetaBlock_carries (s := { u with remaining := 0 }) hu

theorem opCmd_carries : Carries m (opCmd s) (opCmd (s.onInput m)) :=
  (countSymbol_carries h .I).bind fun _ ht => runSymbol_carries ht _ _

theorem opLit_carries : Carries m (opLit s) (opLit (s.onInput m)) :=
  (countSymbol_carries h .L).bind fun _ ht => runSymbol_carries ht _ _

theorem opDist_carries : Carries m (opDist s) (opDist (s.onInput m)) :=
  .ite (fun _ => .ok h) fun _ => (countSymbol_carries h .D).bind fun _ ht => runSymbol_carries ht _ _

theorem copyBackward_carries (d n : Nat) : Carries m (copyBackward d n s) (copyBackward d n (s.onInput m)) := by
  induction n generalizing s with
  | zero => exact .ok h
  | succ n ih =>
    have hread : (s.onInput m).outRead d = s.outRead d := rfl
    rw [copyBackward, copyBackward, hread]
    split
    · exact ih (s := s.append _) h
    · exact .stop _ _

theorem opCopy_carries : Carries m (opCopy s) (opCopy (s.onInput m)) := by
  have hcopy (u : State) (hu : u.growsTo m) :
      Carries m (copyBackward u.distance.toNat u.copyLen u >>= fun v =>
          endOfCommand { v with remaining := v.remaining - v.copyLen })
        (copyBackward u.distance.toNat u.copyLen (u.onInput m) >>= fun v =>
          endOfCommand { v with remaining := v.remaining - v.copyLen }) :=
    (copyBackward_carries hu _ _).bind fun v hv =>
      endOfCommand_carries (s := { v with remaining := v.remaining - v.copyLen }) hv
  have hcode : (s.onInput m).dcode = s.dcode := rfl
  rw [opCopy, opCopy, hcode]
  split
  · exact .ite (fun _ => .stop _ _) fun _ => hcopy s h
  · exact .ite (fun _ => .stop _ _) fun _ => hcopy { s with distRing := s.distRing.push s.distance.toNat } h

theorem opDict_carries : Carries m (opDict s) (opDict (s.onInput m)) := by
  unfold opDict
  refine .ite (fun _ => .stop _ _) fun _ => ?_
  by_cases hlen : s.copyLen < 4 ∨ 24 < s.copyLen
  · rw [if_pos hlen]
    exact .stop _ _
  have hlen' : ¬((s.onInput m).copyLen < 4 ∨ 24 < (s.onInput m).copyLen) := hlen
  have hcopy : (s.onInput m).copyLen = s.copyLen := rfl
  rw [if_neg hlen, if_neg hlen']
  simp only [hcopy, runElement_bucket (Nat.not_lt.mp fun h4 => hlen (.inl h4)) (Nat.not_lt.mp fun h24 => hlen (.inr h24))]
  refine (selectWord_carries (s := { s with work := { s.work with wordId := (s.distance - s.maxDist - 1).toNat } }) h _).bind
    fun t ht => (runTransform_carries ht _).bind fun u hu => .ite (fun _ => .stop _ _) fun _ => ?_
  simp only [State.appendAll_eq_foldl]
  exact (endOfCommand_carries (s := { u with
    out := u.work.word.foldl Memory.push u.out, remaining := u.remaining - u.work.word.length }) hu).bind fun _ hv => .ok hv


/-- The operation that a decoder state enables, but for the empty input that may end at once. -/
theorem effect_carries {i : Instr} (hi : operationRow s.state s.cmdPhase s.beyond = some i)
    (hempty : ¬(s.inp.size = 0 ∧ s.params.emptyInputOk = true)) : Carries m (effect i s) (effect i (s.onInput m)) := by
  have hmem := operationRow_mem hi
  simp only [operations, List.mem_cons, List.not_mem_nil, or_false] at hmem
  obtain rfl | rfl | rfl | rfl | rfl | rfl | rfl | rfl | rfl | rfl := hmem
  · exact opStreamHeader_carries h hempty
  · exact opMhdr_carries h
  · exact opMetadata_carries h
  · exact opUncompressed_carries h
  · exact opSetup_carries h
  · exact opCmd_carries h
  · exact opLit_carries h
  · exact opDist_carries h
  · exact opCopy_carries h
  · exact opDict_carries h

end

theorem Memory.begins_append {a : Memory} (ha : a.wf = true) (more : List Byte) : a.Begins (.ofBytes (a.bytes ++ more)) where
  size := by simp
  read i hi := by
    rw [Memory.read_eq ha, Memory.read_eq (Memory.wf_ofBytes _), Memory.bytes_ofBytes,
      List.getElem?_append_left (by simpa using hi)]

theorem step_of_no_operation {s : State} (h : operationRow s.state s.cmdPhase s.beyond = none) : step s = .next s := by
  simp [step, State.fetch, State.place, decode, h]

/-- Settles O13: the enabled operation is the same on the longer input, and what it does carries over. -/
theorem bytesNotReadDoNotMatter : Obligations.BytesNotReadDoNotMatter := by
  intro s t more hs htrailing hempty hstep hstate
  have hgrows : s.growsTo (.ofBytes (s.inp.bytes ++ more)) := ⟨Memory.begins_append hs.inputCanonical more, htrailing⟩
  show step (s.onInput _) = .next (t.onInput _)
  cases hi : operationRow s.state s.cmdPhase s.beyond with
  | none =>
    cases (step_of_no_operation hi).symm.trans hstep
    exact step_of_no_operation (s := s.onInput _) hi
  | some i =>
    rw [step_of_operationRow hi] at hstep
    obtain ⟨heffect, -⟩ | ⟨k, info, p, -, rfl⟩ := exec_frame hstep
    · have hi' : operationRow (s.onInput (.ofBytes (s.inp.bytes ++ more))).state _ _ = some i := hi
      rw [step_of_operationRow hi', exec_of_operationRow hi', (effect_carries hgrows hi hempty t heffect).2, deliver_ok]
    · exact absurd rfl hstate

end Sys2Proof.Machine
end

section
/-! Obligations O21, O22 and O28. The bit reader: fields, the padding to a byte boundary and its errors, and the rows of a
metadata header (40_bitreader.md R96, R98, R102; 42_metablock.md R137, R138). -/

namespace Sys2Proof.Machine

theorem readBits_short {n : Nat} {s : State} (h : s.inputBits < s.bitpos + n) :
    readBits n s = .error (.raise .invalidArguments "read past end of input" s.bitpos) := by
  rw [readBits, skip_short h]
  rfl

/-- A stream bit is a bit of its byte, the least significant first (20_memory.md R52). -/
theorem Memory.bit_of_read {m : Memory} {k : Nat} {b : Byte} (h : m.read (k / 8) = some b) : m.bit k = b.getLsbD (k % 8) := by
  rw [Memory.bit, h]

/-- Settles O21: the value read is the field at the cursor, whose bits are stream bits. -/
theorem readBitsTakesTheLowBitFirst : Obligations.ReadBitsTakesTheLowBitFirst := fun n s =>
  ⟨fun h => ⟨s.peek n, readBits_eq h, s.inp.field_lt _ n, fun _ hj => s.inp.testBit_field _ n _ hj⟩,
    readBits_short, fun _ _ => Memory.bit_of_read⟩

/-! ### Padding -/

section
variable {s : State} (hs : s.cursorIn)
include hs

theorem alignToByte_zero (hv : s.peek s.padBits = 0) (k : PadKind) : alignToByte k s = .ok (s.advance s.padBits) := by
  rw [alignToByte, show s.inp.field s.bitpos s.padBits = 0 from hv, padding_zero (State.padBits_fits hs)]

theorem alignToByte_nonzero (hv : s.peek s.padBits ≠ 0) (k : PadKind) :
    alignToByte k s = .error (.raise (PadKind.error k) "non-zero padding" (s.bitpos + s.padBits)) :=
  padding_nonzero (State.padBits_fits hs) hv

theorem finalPadding_nonzero (hv : s.peek s.padBits ≠ 0) :
    finalPadding s = .error (.raise .formatPadding2 "non-zero padding" (s.bitpos + s.padBits)) := by
  rw [finalPadding, alignToByte_nonzero hs hv]
  rfl

theorem finalPadding_trailing (hv : s.peek s.padBits = 0) (ht : s.params.trailing = .reject)
    (hmore : s.bitpos + s.padBits < s.inputBits) :
    finalPadding s = .error (.raise .invalidArguments "trailing input" (s.bitpos + s.padBits)) := by
  rw [finalPadding, alignToByte_zero hs hv]
  exact if_pos ⟨ht, hmore⟩

end

/-- Settles O22: the next boundary is `padBits` on, and the cases of the padding's value and of the bytes after it are separate
lemmas. -/
theorem alignmentChecksThePadding : Obligations.AlignmentChecksThePadding := by
  intro k s hs a v
  have ha : a = s.bitpos + s.padBits := s.padBits_spec.1.symm
  have hv : v = s.peek s.padBits := congrArg (s.inp.field s.bitpos) (by omega)
  rw [hv, ha]
  refine ⟨fun h => alignToByte_zero hs h k, fun h => ⟨_, alignToByte_nonzero hs h k⟩, fun h hend => ?_,
    fun h ht hmore => ⟨_, finalPadding_trailing hs h ht hmore⟩, fun h => ⟨_, finalPadding_nonzero hs h⟩⟩
  exact finalPadding_eq (State.padBits_fits hs) h fun ht => hend.resolve_left (by simp [ht])

/-! ### The rows of a metadata header and of padding -/

section
variable {s : State}

/-- A row of a metadata header. -/
theorem exec_metadataRow (hs : s.state = .metadata) {i : Instr} (hi : guardOf i = .states [.metadata]) :
    exec i s = deliver s (elem i s) := exec_of_admits hi (by simp [Guard.admits, hs])

theorem reservedBitSet_eq (h : s.has 1) :
    reservedBitSet s = .error (.raise .formatReserved "reserved bit pattern" (s.bitpos + 1)) := by
  rw [reservedBitSet, skip_eq h]
  rfl

theorem setSkipBytes_eq (h : s.has 2) (k : Nat) : setSkipBytes k s =
    .ok { s with bitpos := s.bitpos + 2, work := { s.work with skb := k, acc := 0, index := 0 } } := by
  rw [setSkipBytes, skip_eq h]
  rfl

theorem skipLengthByte_eq (h : s.has 8) (b : Nat) : skipLengthByte b s =
    if s.work.index + 1 = s.work.skb ∧ 1 < s.work.skb ∧ b = 0 then
      .error (.raise .formatExuberantMetaNibble "invalid meta-block size nibble" (s.bitpos + 8))
    else .ok { s with
      bitpos := s.bitpos + 8,
      work := { s.work with acc := s.work.acc ||| (b * 2 ^ (8 * s.work.index)), index := s.work.index + 1 } } := by
  rw [skipLengthByte, skip_eq h, ← Nat.shiftLeft_eq]
  rfl

theorem exec_pad {k : PadKind} (hi : k = .interior → s.state = .metadata ∨ s.state = .uncompressedBody)
    (hf : k = .final → s.state = .metaBlockHeader ∨ s.state = .metadata ∨ s.state = .commandLoop) (n v : Nat) :
    exec (.pad k n v) s = deliver s (padding k n v s) := by
  refine during_of_mem ?_ _
  cases k with
  | interior => simpa [padStates] using hi rfl
  | final => simpa [padStates] using hf rfl

end

/-- Settles O28: each row is its effect under its guard. -/
theorem metadataAndPaddingRows : Obligations.MetadataAndPaddingRows := by
  refine ⟨fun s hs => ⟨fun h => ⟨?_, ?_⟩, fun h i k hi => ?_, fun b h => ⟨fun hfinal => ?_, fun hfinal => ?_⟩⟩,
    fun s k n h hi hf => ⟨?_, fun v hv => ?_⟩⟩
  · rw [exec_metadataRow hs (i := .metadataReserved0) rfl, elem, elemMetadataReserved0, skip_eq h]
    rfl
  · rw [exec_metadataRow hs (i := .metadataReserved1) rfl, elem, elemMetadataReserved1, reservedBitSet_eq h]
    exact raises_deliver ..
  · have hrow (hg : guardOf i = .states [.metadata]) (he : elem i s = setSkipBytes k s) : exec i s = .next { s with
        bitpos := s.bitpos + 2, work := { s.work with skb := k, acc := 0, index := 0 } } := by
      rw [exec_metadataRow hs hg, he, setSkipBytes_eq h, deliver_ok]
    simp only [List.mem_cons, List.not_mem_nil, or_false, Prod.mk.injEq] at hi
    obtain ⟨rfl, rfl⟩ | ⟨rfl, rfl⟩ | ⟨rfl, rfl⟩ | ⟨rfl, rfl⟩ := hi <;> exact hrow rfl rfl
  · rw [exec_metadataRow hs (i := .mskiplenByte b) rfl, elem, elemMskiplenByte, skipLengthByte_eq h, if_neg hfinal, deliver_ok]
  · rw [exec_metadataRow hs (i := .mskiplenByte b) rfl, elem, elemMskiplenByte, skipLengthByte_eq h, if_pos hfinal]
    exact raises_deliver ..
  · rw [exec_pad hi hf, padding_zero h]
    rfl
  · have hkind : PadKind.error k = if k = .interior then .formatPadding1 else .formatPadding2 := by cases k <;> rfl
    rw [exec_pad hi hf, padding_nonzero h hv, hkind]
    exact raises_deliver ..

end Sys2Proof.Machine
end

section
/-! Obligation O45. MHDR on a meta-block without data: an empty last one ends the stream, a metadata one goes to its body
(42_metablock.md R132, R133; 40_bitreader.md R102). -/

namespace Sys2Proof.Machine

section
variable {s : State}

/-! ### The header bits -/

theorem runElement_mhdr_notLast (h : s.has 1) (hv : s.peek 1 = 0) :
    runElement (.field .mhdr) s = .ok { s with bitpos := s.bitpos + 1, isLast := false } := by
  rw [runElement_bare (l := [0]) (i := .mhdrLast0) (by simp [fieldRows]) h (by decide) hv rfl, elem, elemMhdrLast0,
    notLastHeader, skip_eq h]
  rfl

theorem runElement_mhdr_last (h : s.has 2) (hv : s.peek 2 = 1) :
    runElement (.field .mhdr) s = .ok { s with bitpos := s.bitpos + 2, isLast := true, isLastEmpty := false } := by
  rw [runElement_bare (l := [1, 0]) (i := .mhdrLast1Empty0) (by simp [fieldRows]) h (by decide) hv rfl, elem,
    elemMhdrLast1Empty0, lastHeader, skip_eq h]
  rfl

theorem runElement_mhdr_empty (h : s.has 2) (hv : s.peek 2 = 3) : runElement (.field .mhdr) s =
    finalPadding { s with bitpos := s.bitpos + 2, isLast := true, isLastEmpty := true } >>= fun t => .ok (t.goto .done) := by
  rw [runElement_bare (l := [1, 1]) (i := .mhdrLast1Empty1) (by simp [fieldRows]) h (by decide) hv rfl, elem,
    elemMhdrLast1Empty1, lastEmptyHeader, skip_eq h]
  rfl

theorem runElement_mnibbles_metadata (h : s.has 2) (hv : s.peek 2 = 3) :
    runElement (.field .mnibbles) s = .ok { s with bitpos := s.bitpos + 2, isMetadata := true, state := .metadata } := by
  rw [runElement_bare (l := [1, 1]) (i := .mnibbles3) (by simp [fieldRows]) h (by decide) hv rfl, elem, elemMnibbles3,
    metadataNibbles, skip_eq h]
  rfl

/-- The low and the high bits of a field at the cursor. -/
theorem State.peek_add (s : State) (a b : Nat) : s.peek (a + b) = s.peek a + 2 ^ a * s.inp.field (s.bitpos + a) b :=
  s.inp.field_add s.bitpos a b

/-! ### The operation -/

theorem opMhdr_empty {t : State} (h : runElement (.field .mhdr) s = .ok t) (hlast : t.isLast = true)
    (hempty : t.isLastEmpty = true) : opMhdr s = .ok t := by
  rw [opMhdr, h]
  exact if_pos ⟨hlast, hempty⟩

theorem opMhdr_error {e : Stop} (h : runElement (.field .mhdr) s = .error e) : opMhdr s = .error e := by
  rw [opMhdr, h]
  rfl

theorem opMhdr_metadata {t : State} (h : runElement (.field .mhdr) s = .ok t)
    (hdata : ¬(t.isLast = true ∧ t.isLastEmpty = true)) (hn : t.has 2) (hv : t.peek 2 = 3) :
    opMhdr s = .ok { t with bitpos := t.bitpos + 2, isMetadata := true, state := .metadata } := by
  rw [opMhdr, h, Res.ok_bind, if_neg hdata, runElement_mnibbles_metadata hn hv]
  rfl

end

/-- Settles O45: the header bits are read as their row; the padding of an empty last meta-block is that of O22, and the flags of
a metadata one follow from MNIBBLES. -/
theorem headerWithoutData : Obligations.HeaderWithoutData := by
  intro s hs
  have hexec : exec .mhdr s = deliver s (opMhdr s) := during_of_mem (by simp [hs]) _
  rw [hexec]
  refine ⟨fun h hv => ?_, fun h hv => ?_, fun h hv => ?_⟩
  · intro t a
    have hheader := runElement_mhdr_empty h hv
    have ht : t.cursorIn := h
    refine ⟨fun hclean => ?_, fun hpad => ?_, fun hpad htrailing hmore => ?_⟩
    · obtain ⟨hfits, hzero, hend⟩ := hclean rfl
      rw [finalPadding_eq hfits hzero hend] at hheader
      rw [opMhdr_empty hheader rfl rfl]
      rfl
    · rw [finalPadding_nonzero ht hpad] at hheader
      rw [opMhdr_error hheader]
      exact raises_deliver ..
    · rw [finalPadding_trailing ht hpad htrailing hmore] at hheader
      rw [opMhdr_error hheader]
      exact raises_deliver ..
  · have hlow : s.peek 1 < 2 ^ 1 := s.inp.field_lt s.bitpos 1
    have hsplit : s.peek 3 = _ := s.peek_add 1 2
    rw [opMhdr_metadata (runElement_mhdr_notLast (Nat.le_trans (by omega) h) (by omega)) (by simp) h
      (show s.inp.field (s.bitpos + 1) 2 = 3 by omega), deliver_ok]
  · have hlow : s.peek 2 < 2 ^ 2 := s.inp.field_lt s.bitpos 2
    have hsplit : s.peek 4 = _ := s.peek_add 2 2
    rw [opMhdr_metadata (runElement_mhdr_last (Nat.le_trans (by omega) h) (by omega)) (by simp) h
      (show s.inp.field (s.bitpos + 2) 2 = 3 by omega), deliver_ok]

end Sys2Proof.Machine
end

section
/-! SUPPORT. What a step uses up: bits of the input, or else the output that a meta-block may still produce and the parts of the
command under way (43_command_loop.md R189; 40_bitreader.md R103). -/

namespace Sys2Proof.Machine

/-- The parts of a command still to come. A long distance code has paid with a bit of its own for a dictionary word that may be
empty, so it counts above the start of the next command. -/
def State.partsLeft (s : State) : Nat :=
  match s.cmdPhase with
  | .cmdBegin => 3
  | .insert | .distance => 2
  | .copy => if 16 + s.ndirect ≤ s.dcode then 4 else 1

/-- What the command loop can still do without reading a bit: the bytes of the meta-block, then the parts of the command. -/
def State.workLeft (s : State) : Nat := if s.state = .commandLoop then 5 * s.remaining + s.partsLeft else 0

/-- A step from `s` to `t` ends the decode, reads a bit, or uses up work. -/
def State.progressesTo (s t : State) : Prop := t.ended = true ∨ s.bitpos < t.bitpos ∨ t.workLeft < s.workLeft

theorem State.partsLeft_le (s : State) : s.partsLeft ≤ 4 := by
  unfold State.partsLeft
  split
  case h_4 => split <;> decide
  all_goals decide

theorem State.workLeft_le (s : State) : s.workLeft ≤ 5 * s.remaining + s.partsLeft := by
  unfold State.workLeft
  split
  · exact le_rfl
  · exact Nat.zero_le _

/-! ### The operations that read a bit -/

section
variable {s : State}

/-- Behind a read that moves the cursor on, the rest of an operation keeps it there. -/
theorem Ensures.forward {n : Nat} {r : Res State} {f : State → Res State} (h : Ensures (fun t => n ≤ t.bitpos) r)
    (hf : ∀ t, n ≤ t.bitpos → Forward n (f t)) : Ensures (fun t => n ≤ t.bitpos) (r >>= f) :=
  h.bind fun t ht => (hf t ht).completes

/-- A field that takes at least a bit moves the cursor on. -/
theorem skip_advances {k : Nat} (hk : k ≠ 0) : Ensures (fun t => s.bitpos + 1 ≤ t.bitpos) (skip k s) := by
  simp only [ensures_skip, State.advance_bitpos]
  omega

theorem runField_advances {f : Field} (hf : f ∈ [Field.wbits, .mhdr, .reserved, .varlen]) :
    Ensures (fun t => s.bitpos + 1 ≤ t.bitpos) (runElement (.field f) s) := by
  have hrow {k : Nat} (hk : k ≠ 0) (g : State → State) (hg : ∀ t, (g t).bitpos = t.bitpos) :
      Ensures (fun t => s.bitpos + 1 ≤ t.bitpos) (skip k s >>= fun t => .ok (g t)) :=
    (skip_advances hk).forward fun t ht => .ok (hg t ▸ ht)
  refine ensures_runField ?_
  simp only [List.mem_cons, List.not_mem_nil, or_false] at hf
  obtain rfl | rfl | rfl | rfl := hf <;>
    simp only [fieldRows, bare, wide, List.forall_mem_cons, List.not_mem_nil, IsEmpty.forall_iff, implies_true, and_true]
  · have hwindow {k : Nat} (hk : k ≠ 0) (w : Nat) : Ensures (fun t => s.bitpos + 1 ≤ t.bitpos) (setWindow k w s) :=
      hrow hk _ fun _ => rfl
    exact ⟨fun _ _ => hwindow one_ne_zero 16, fun _ _ => hwindow four_ne_zero 18, fun _ _ => hwindow four_ne_zero 19,
      fun _ _ => hwindow four_ne_zero 20, fun _ _ => hwindow four_ne_zero 21, fun _ _ => hwindow four_ne_zero 22,
      fun _ _ => hwindow four_ne_zero 23, fun _ _ => hwindow four_ne_zero 24, fun _ _ => hwindow (by decide) 17,
      fun _ _ => largeWindow_stops s 7, fun _ _ => hwindow (by decide) 10, fun _ _ => hwindow (by decide) 11,
      fun _ _ => hwindow (by decide) 12, fun _ _ => hwindow (by decide) 13, fun _ _ => hwindow (by decide) 14,
      fun _ _ => hwindow (by decide) 15⟩
  · exact ⟨fun _ _ => (skip_advances two_ne_zero).forward fun t ht =>
        (finalPadding_forward (s := { t with isLast := true, isLastEmpty := true }) ht).bind fun _ hu => .ok hu,
      fun _ _ => hrow two_ne_zero _ fun _ => rfl, fun _ _ => hrow one_ne_zero _ fun _ => rfl⟩
  · exact ⟨fun _ _ => skip_advances one_ne_zero, fun _ _ => reservedBitSet_stops s⟩
  · and_intros <;> exact fun _ _ => hrow (by decide) _ fun _ => rfl

theorem header_progresses : Ensures s.progressesTo (opStreamHeader.header s) := by
  unfold opStreamHeader.header
  split
  · exact (ensures_ok _).mpr (.inl rfl)
  · exact (runField_advances (by simp)).mono fun _ ht => .inr (.inl ht)

theorem opStreamHeader_progresses : Ensures s.progressesTo (opStreamHeader s) := by
  unfold opStreamHeader
  split
  · split
    · exact header_progresses
    · exact ensures_raise _ _ _
  · exact header_progresses

theorem opMhdr_advances : Ensures (fun t => s.bitpos + 1 ≤ t.bitpos) (opMhdr s) := by
  refine (runField_advances (by simp)).forward fun t ht => ?_
  split
  · exact .ok ht
  refine (runElement_forward ht _).bind fun u hu => ?_
  split
  · exact .ok hu
  refine (Forward.iterate (fun _ hv => runElement_forward hv _) _ hu).bind fun v hv => ?_
  split
  · exact (dispatchBody_forward (s := { v with isUncompressed := false }) hv).bind fun _ hw => .ok hw
  · exact (runElement_forward hv _).bind fun _ hw => .ok hw

theorem opMetadata_advances : Ensures (fun t => s.bitpos + 1 ≤ t.bitpos) (opMetadata s) :=
  (runField_advances (by simp)).forward fun _ ht => (runElement_forward ht _).bind fun _ hu =>
    (Forward.iterate (fun _ hv => runElement_forward hv _) _ hu).bind fun _ hv =>
    (runElement_forward hv _).bind fun _ hw => (skipBytes_forward hw _).bind fun _ hx =>
    (endOfMetaBlock_forward hx).bind fun _ hy => .ok hy

/-- An uncompressed body of at least a byte reads it (42_metablock.md R139). -/
theorem opUncompressed_advances (hs : 1 ≤ s.mlen) : Ensures (fun t => s.bitpos + 1 ≤ t.bitpos) (opUncompressed s) := by
  intro t ht
  obtain ⟨u, hu, ht⟩ := Res.bind_eq_ok.mp ht
  obtain ⟨v, hv, ht⟩ := Res.bind_eq_ok.mp ht
  have hforward := (runElement_forward (Nat.le_refl s.bitpos) _).completes u hu
  have hmlen : u.mlen = s.mlen := ((runElement_runs _ s).frame u hu).same .mlen (by simp [placeWrites])
  obtain ⟨-, bs, -, rfl⟩ := readBytes_ok hv
  refine (endOfMetaBlock_forward ?_).completes t ht
  simp only [State.advance_bitpos, State.appendAll_bitpos]
  omega

theorem blockHeader_advances (c : Category) : Ensures (fun t => s.bitpos + 1 ≤ t.bitpos) (blockHeader c s) := by
  rw [blockHeader_eq]
  refine (runField_advances (by simp)).forward fun t ht => ?_
  split
  · exact blockCodes_forward (le_bitpos_setTracker ht c _) c _
  · exact .ok (le_bitpos_setTracker ht c _)

theorem opSetup_advances : Ensures (fun t => s.bitpos + 1 ≤ t.bitpos) (opSetup s) :=
  (blockHeader_advances .L).forward fun _ ha => (blockHeader_forward ha .I).bind fun _ hb =>
    (blockHeader_forward hb .D).bind fun _ hc => (distanceParameters_forward hc).bind fun _ hd =>
    (contextModes_forward hd).bind fun _ he => (literalMap_forward he).bind fun _ hf =>
    (distanceMap_forward hf).bind fun _ hg => (treeGroups_forward hg).bind fun _ hh => .ok hh

/-! ### The operations that use up work -/

/-- The end of a meta-block leaves the command loop (42_metablock.md R140). -/
theorem endOfMetaBlock_workLeft : Ensures (fun t => t.workLeft = 0) (endOfMetaBlock s) := by
  simp [endOfMetaBlock, State.workLeft]

theorem postInsert_workLeft : Ensures (fun t => t.workLeft ≤ 5 * s.remaining + 2) (postInsert s) := by
  unfold postInsert
  split
  · exact endOfMetaBlock_workLeft.mono fun _ ht => ht ▸ Nat.zero_le _
  · exact (ensures_ok _).mpr (State.workLeft_le _)

theorem endOfCommand_workLeft : Ensures (fun t => t.workLeft ≤ 5 * s.remaining + 3) (endOfCommand s) := by
  unfold endOfCommand
  split
  · exact endOfMetaBlock_workLeft.mono fun _ ht => ht ▸ Nat.zero_le _
  · exact (ensures_ok _).mpr (State.workLeft_le _)

theorem command_workLeft (cell sym : Nat) : Ensures (fun t => t.workLeft ≤ 5 * s.remaining + 2) (command cell sym s) := by
  simp only [command, insertLength, copyLength, ensures_bind, ensures_consume, ensures_readBits, ensures_ite, ensures_raise,
    Res.pure_eq, ensures_ok, implies_true, true_and]
  exact fun _ _ _ _ _ => ⟨fun _ => State.workLeft_le _, fun _ => postInsert_workLeft⟩

theorem opCmd_workLeft : Ensures (fun t => t.workLeft ≤ 5 * s.remaining + 2) (opCmd s) :=
  (countSymbol_runs s .I).frame.bind fun t ht => ensures_runCode fun _ _ v _ _ =>
    have hremaining : t.remaining = s.remaining := ht.same .remaining (by simp)
    hremaining ▸ command_workLeft (v / 64) v

/-- A literal is a byte less (43_command_loop.md R172). -/
theorem literal_workLeft (b : Byte) : Ensures (fun t => t.workLeft ≤ 5 * (s.remaining - 1) + 4) (literal b s) := by
  simp only [literal, ensures_bind, ensures_consume]
  intro l _
  split
  · exact postInsert_workLeft.mono fun t ht => ht.trans (Nat.add_le_add_left (by decide) _)
  · exact (ensures_ok _).mpr ((State.workLeft_le _).trans (Nat.add_le_add_left (State.partsLeft_le _) _))

theorem opLit_workLeft : Ensures (fun t => t.workLeft ≤ 5 * (s.remaining - 1) + 4) (opLit s) :=
  (countSymbol_runs s .L).frame.bind fun t ht => ensures_runCode fun _ _ v _ _ =>
    have hremaining : t.remaining = s.remaining := ht.same .remaining (by simp)
    hremaining ▸ literal_workLeft _

theorem resolve_workLeft {code : Nat} (hcode : code < 16 + s.ndirect) (d : Int) :
    (resolve code d s).workLeft ≤ 5 * s.remaining + 1 := by
  refine (State.workLeft_le _).trans (Nat.add_le_add_left ?_ _)
  simp [State.partsLeft, resolve, Nat.not_le.mpr hcode]

/-- A distance symbol uses up a part, or its extra bits (30_encoding.md R85). -/
theorem distanceSymbol_progresses (v : Nat) : Ensures (fun t => t.workLeft ≤ 5 * s.remaining + 1 ∨ s.bitpos < t.bitpos)
    (symbolEffect (.distance s.ndirect) v s) := by
  simp only [symbolEffect]
  split
  · simp only [shortCode, ensures_bind, ensures_consume, ensures_ite, ensures_raise, Res.pure_eq, ensures_ok, implies_true,
      true_and]
    exact fun l _ _ => .inl (resolve_workLeft (s := s.advance l) (Nat.lt_add_right _ ‹_›) _)
  split
  · simp only [directCode, ensures_bind, ensures_consume, Res.pure_eq, ensures_ok]
    exact fun l _ => .inl (resolve_workLeft (s := s.advance l) ‹_› _)
  · simp only [longCode, ensures_bind, ensures_consume, ensures_readBits, Res.pure_eq, ensures_ok]
    refine fun l _ _ => .inr ?_
    have hbits : 1 ≤ distanceBits s.npostfix s.ndirect v := Nat.le_add_right ..
    simp only [resolve, State.advance_bitpos, State.advance_npostfix, State.advance_ndirect]
    omega

theorem opDist_progresses :
    Ensures (fun t => t.workLeft ≤ 5 * s.remaining + 1 ∨ s.bitpos < t.bitpos) (opDist s) := by
  unfold opDist
  split
  · exact (ensures_ok _).mpr (.inl (resolve_workLeft (by omega) _))
  refine ((countSymbol_runs s .D).frame.and (countSymbol_forward le_rfl .D).completes).bind fun t ⟨ht, hforward⟩ =>
    ensures_runCode fun _ _ v _ _ => (distanceSymbol_progresses v).mono fun u hu => ?_
  have hremaining : t.remaining = s.remaining := ht.same .remaining (by simp)
  exact hremaining ▸ hu.imp_right hforward.trans_lt

/-- A copy produces its length (43_command_loop.md R182). -/
theorem opCopy_workLeft : Ensures (fun t => t.workLeft ≤ 5 * (s.remaining - s.copyLen) + 3) (opCopy s) := by
  unfold opCopy
  extract_lets u
  have hu : u.remaining = s.remaining ∧ u.copyLen = s.copyLen := by
    unfold u
    split <;> exact ⟨rfl, rfl⟩
  split
  · exact ensures_raise _ _ _
  refine (copyBackward_runs u _ _).frame.bind fun v hv => ?_
  have hremaining : v.remaining = s.remaining := (hv.same .remaining (by decide)).trans hu.1
  have hlength : v.copyLen = s.copyLen := (hv.same .copyLen (by decide)).1.trans hu.2
  rw [← hremaining, ← hlength]
  exact endOfCommand_workLeft (s := { v with remaining := v.remaining - v.copyLen })

end

end Sys2Proof.Machine
end

section
/-! Obligation O12. A short or direct distance code gives a word that is not empty, so every step makes progress, and a decode
of a finite input ends (43_command_loop.md R189; 70_reset_and_hazards.md R234). -/

namespace Sys2Proof.Machine

/-! ### DICT -/

theorem State.dictRead_length {s : State} {off n : Nat} {bs : List Byte} (h : s.dictRead off n = some bs) : bs.length = n := by
  induction n generalizing off bs with
  | zero => cases h; rfl
  | succ n ih =>
    obtain ⟨b, -, h⟩ := Option.bind_eq_some_iff.mp h
    obtain ⟨cs, hcs, h⟩ := Option.bind_eq_some_iff.mp h
    cases h
    exact congrArg Nat.succ (ih hcs)

theorem five_le_dictBits : ∀ len < 25, 4 ≤ len → 5 ≤ dictBits len := by decide

/-- The first four transforms leave something of a word: they add to it or omit its first byte. -/
theorem applyTransform_ne_nil {w bs : List Byte} {tid : Nat} (htid : tid < 4) (hw : 4 ≤ w.length)
    (h : applyTransform w tid = some bs) : bs ≠ [] := by
  have hdrop : ∃ pre suf k, k ≤ 1 ∧ pre ++ w.drop k ++ suf = bs := by
    obtain rfl | rfl | rfl | rfl : tid = 0 ∨ tid = 1 ∨ tid = 2 ∨ tid = 3 := by omega
    · exact ⟨_, _, 0, Nat.zero_le _, Option.some.inj h⟩
    · exact ⟨_, _, 0, Nat.zero_le _, Option.some.inj h⟩
    · exact ⟨_, _, 0, Nat.zero_le _, Option.some.inj h⟩
    · exact ⟨_, _, 1, le_rfl, Option.some.inj h⟩
  obtain ⟨pre, suf, k, hk, rfl⟩ := hdrop
  refine List.length_pos_iff.mp ?_
  simp only [List.length_append, List.length_drop]
  omega

/-- The word of a bucket for an id below 120 comes with one of the first four transforms. -/
theorem selectWord_spec {len : Nat} {s : State} (h4 : 4 ≤ len) (h24 : len ≤ 24) (hid : s.work.wordId < 120) :
    Ensures (fun t => t.work.word.length = len ∧ t.work.tid < 4) (selectWord len s) := by
  unfold selectWord
  dsimp only
  split
  · refine (ensures_ok _).mpr ⟨State.dictRead_length ‹_›, ?_⟩
    have hbits := five_le_dictBits len (by omega) h4
    show s.work.wordId >>> dictBits len < 4
    calc s.work.wordId >>> dictBits len = s.work.wordId / 2 ^ dictBits len := Nat.shiftRight_eq_div_pow ..
      _ ≤ s.work.wordId / 2 ^ 5 := Nat.div_le_div_left (Nat.pow_le_pow_right (by decide) hbits) (by decide)
      _ < 4 := by omega
  · exact ensures_error _

theorem runTransform_word {s : State} (htid : s.work.tid < 4) (hw : 4 ≤ s.work.word.length) :
    Ensures (fun t => t.work.word ≠ []) (runElement (.entry .transform s.work.tid) s) := by
  rw [runElement_transform (by omega), wordTransform]
  split
  · exact (ensures_ok _).mpr (applyTransform_ne_nil htid hw ‹_›)
  · exact ensures_error _

/-- A dictionary word is output, but for one that is empty, which a short or direct code cannot give. -/
theorem opDict_workLeft (s : State) : Ensures (fun t => t.workLeft ≤ 5 * s.remaining + 3 ∧
    (s.distance ≤ max 120 (s.maxDist + 3) → t.workLeft < 5 * s.remaining)) (opDict s) := by
  unfold opDict
  split
  · exact ensures_raise _ _ _
  split
  · exact ensures_raise _ _ _
  have h4 : 4 ≤ s.copyLen := by omega
  have h24 : s.copyLen ≤ 24 := by omega
  let r : State := { s with work := { s.work with wordId := (s.distance - s.maxDist - 1).toNat } }
  have hword : Ensures (fun t => s.distance ≤ max 120 (s.maxDist + 3) → t.work.word.length = s.copyLen ∧ t.work.tid < 4)
      (runElement (.entry .dictBucket s.copyLen) r) := by
    rw [runElement_bucket h4 h24]
    exact fun t ht hd => selectWord_spec h4 h24 (show (s.distance - s.maxDist - 1).toNat < 120 by omega) t ht
  refine (hword.and (runElement_runs (.entry .dictBucket _) r).frame).bind fun t ⟨htext, rt⟩ => ?_
  have hnext : Ensures (fun u => s.distance ≤ max 120 (s.maxDist + 3) → u.work.word ≠ [])
      (runElement (.entry .transform t.work.tid) t) := fun u hu hd =>
    runTransform_word (htext hd).2 ((htext hd).1.symm ▸ h4) u hu
  refine (hnext.and (runElement_runs (.entry .transform _) t).frame).bind fun u ⟨hne, tu⟩ => ?_
  have hremaining : u.remaining = s.remaining :=
    (tu.same .remaining (by simp [placeWrites])).trans (rt.same .remaining (by simp [placeWrites]))
  dsimp only
  split
  · exact ensures_raise _ _ _
  refine endOfCommand_workLeft.bind fun v hv => (ensures_ok _).mpr ?_
  have hrest : v.rest.workLeft ≤ 5 * (s.remaining - u.work.word.length) + 3 := hremaining ▸ hv
  refine ⟨by omega, fun hd => ?_⟩
  have hpos := List.length_pos_iff.mpr (hne hd)
  omega

/-! ### Every step -/

/-- The operations of the command loop. -/
theorem loop_progresses {s : State} (hs : Sound s) (hstate : s.state = .commandLoop) {i : Instr}
    (hi : operationRow s.state s.cmdPhase s.beyond = some i) : Ensures s.progressesTo (effect i s) := by
  obtain ⟨-, h1, hvalid⟩ := hs.commands hstate
  have hwork : s.workLeft = 5 * s.remaining + s.partsLeft := if_pos hstate
  cases hphase : s.cmdPhase with
  | cmdBegin =>
    obtain rfl : .cmd = i := by simpa [operationRow, hstate, hphase] using hi
    have hparts : s.partsLeft = 3 := by simp [State.partsLeft, hphase]
    exact opCmd_workLeft.mono fun t ht => .inr (.inr (by omega))
  | insert =>
    obtain rfl : .lit = i := by simpa [operationRow, hstate, hphase] using hi
    exact opLit_workLeft.mono fun t ht => .inr (.inr (by omega))
  | distance =>
    obtain rfl : .dist = i := by simpa [operationRow, hstate, hphase] using hi
    have hparts : s.partsLeft = 2 := by simp [State.partsLeft, hphase]
    exact opDist_progresses.mono fun t ht => .inr (ht.symm.imp_right fun ht => by omega)
  | copy =>
    obtain ⟨hcopy, -, -, hcode⟩ := (State.phaseValid_copy hphase).mp hvalid
    cases hbeyond : s.beyond with
    | false =>
      obtain rfl : .copy = i := by simpa [operationRow, hstate, hphase, hbeyond] using hi
      exact opCopy_workLeft.mono fun t ht => .inr (.inr (by omega))
    | true =>
      obtain rfl : .dict = i := by simpa [operationRow, hstate, hphase, hbeyond] using hi
      refine (opDict_workLeft s).mono fun t ⟨hle, hlt⟩ => .inr (.inr ?_)
      obtain hlong | hshort := hcode
      · have hparts : s.partsLeft = 4 := by simp [State.partsLeft, hphase, hlong]
        omega
      · have := hlt hshort
        omega

theorem effect_progresses {s : State} (hs : Sound s) {i : Instr} (hi : operationRow s.state s.cmdPhase s.beyond = some i) :
    Ensures s.progressesTo (effect i s) := by
  have hadvances {r : Res State} (h : Ensures (fun t => s.bitpos + 1 ≤ t.bitpos) r) : Ensures s.progressesTo r :=
    h.mono fun _ ht => .inr (.inl ht)
  cases hstate : s.state with
  | streamHeader =>
    obtain rfl : .streamHeader = i := by simpa [operationRow, hstate] using hi
    exact opStreamHeader_progresses
  | metaBlockHeader =>
    obtain rfl : .mhdr = i := by simpa [operationRow, hstate] using hi
    exact hadvances opMhdr_advances
  | metadata =>
    obtain rfl : .metadata = i := by simpa [operationRow, hstate] using hi
    exact hadvances opMetadata_advances
  | uncompressedBody =>
    obtain rfl : .uncompressed = i := by simpa [operationRow, hstate] using hi
    obtain ⟨-, -, -, h1, -⟩ := hs.inUncompressed hstate
    exact hadvances (opUncompressed_advances h1)
  | compressedSetup =>
    obtain rfl : .setup = i := by simpa [operationRow, hstate] using hi
    exact hadvances opSetup_advances
  | commandLoop => exact loop_progresses hs hstate hi
  | done | error => simp [operationRow, hstate] at hi

theorem ended_of_no_operation {s : State} (h : operationRow s.state s.cmdPhase s.beyond = none) : s.ended = true := by
  unfold operationRow at h
  split at h
  case h_11 | h_12 => simp [State.ended, *]
  all_goals cases h

theorem run_succ {s t : State} (h : step s = .next t) (k : Nat) :
    Sys2Proof.core.run (k + 1) s = Sys2Proof.core.run k t := by
  have hcore : Sys2Proof.core.step s = .next t := h
  simp only [Host.Core.run, hcore]

/-- A step from a sound state that has not ended makes progress, in the call it belongs to. -/
theorem step_progresses {s t : State} (hs : Sound s) (hended : s.ended = false) (h : step s = .next t) :
    s.progressesTo t ∧ s.bitpos ≤ t.bitpos ∧ t.inp = s.inp ∧ t.params = s.params := by
  cases hi : operationRow s.state s.cmdPhase s.beyond with
  | none => simp [ended_of_no_operation hi] at hended
  | some i =>
    rw [step_of_operationRow hi] at h
    obtain ⟨hinp, -, hparams, hforward, -⟩ := inputIsNeverWrittenNorRewound i s t h
    refine ⟨?_, hforward, hinp, hparams⟩
    obtain ⟨heffect, -⟩ | ⟨k, info, p, -, rfl⟩ := exec_frame h
    · exact effect_progresses hs hi t heffect
    · exact .inl rfl

/-- A run from a sound state ends: the bits of the input left, then the work left without a bit, become fewer at every step. -/
theorem run_ends (s : State) (hs : Sound s) (hl : s.params.largeWindow = false) :
    ∃ k t, Sys2Proof.core.run k s = .next t ∧ t.ended = true := by
  cases hended : s.ended with
  | true => exact ⟨0, s, rfl, hended⟩
  | false =>
    obtain ⟨t, hstep⟩ : ∃ t, step s = .next t :=
      (soundStatesNeverFault s hs).resolve_right fun ⟨_, h⟩ => by simp [hl] at h
    obtain ⟨hprogress, hforward, hinp, hparams⟩ := step_progresses hs hended hstep
    have ht := stepKeepsTheInvariant s t hs hstep
    have hbits : t.inputBits = s.inputBits := congrArg (fun m : Memory => 8 * m.size) hinp
    have hcursor : t.bitpos ≤ s.inputBits := hbits ▸ ht.cursorInInput
    obtain hend | hless := hprogress
    · exact ⟨1, t, run_succ hstep 0, hend⟩
    · obtain ⟨k, u, hu, hend⟩ := run_ends t ht (hparams ▸ hl)
      exact ⟨k + 1, u, (run_succ hstep k).trans hu, hend⟩
termination_by (s.inputBits - s.bitpos, s.workLeft)
decreasing_by
  rw [hbits]
  obtain hlt | hlt := hless
  · exact .left _ _ (by omega)
  · obtain heq | hlt' := hforward.eq_or_lt
    · rw [← heq]
      exact .right _ hlt
    · exact .left _ _ (by omega)

/-- Settles O12: every step makes progress, so a run ends. -/
theorem everyDecodeEnds : Obligations.EveryDecodeEnds := run_ends

end Sys2Proof.Machine
end

section
/-! Obligations O31, O32 and O33. The rows of a simple code's symbols and of the code-length symbols: what each reads and writes,
and the errors of R106 and R116 (41_prefix_codes.md R105 to R107, R112 to R116). -/

namespace Sys2Proof.Machine

/-! ### The symbols of a simple code -/

/-- The width of a simple code's symbol (41_prefix_codes.md R105). -/
def State.symbolWidth (s : State) : Nat := bitlength (s.work.alphabet - 1)

/-- Symbol `j` of those that follow one another from the cursor on. -/
def State.symbolAhead (s : State) (j : Nat) : Nat := s.inp.field (s.bitpos + s.symbolWidth * j) s.symbolWidth

/-- The state after the next `n` symbols. -/
def State.withSymbols (s : State) (n : Nat) : State :=
  { s with
    bitpos := s.bitpos + s.symbolWidth * n
    work := { s.work with syms := s.work.syms ++ (List.range n).map s.symbolAhead } }

/-- The state from which NSYM reads the symbols. -/
def State.beforeSymbols (s : State) : State := { s with bitpos := s.bitpos + 2, work := { s.work with syms := [] } }

theorem State.withSymbols_zero (s : State) : s.withSymbols 0 = s := by simp [State.withSymbols]

theorem State.bitpos_withSymbols_one (s : State) (n : Nat) :
    (s.withSymbols 1).bitpos + s.symbolWidth * n = s.bitpos + s.symbolWidth * (n + 1) := by
  rw [State.withSymbols]
  ring

theorem State.symbolAhead_withSymbols_one (s : State) (j : Nat) : (s.withSymbols 1).symbolAhead j = s.symbolAhead (j + 1) :=
  congrArg (s.inp.field · s.symbolWidth) (s.bitpos_withSymbols_one j)

theorem State.withSymbols_one_withSymbols (s : State) (n : Nat) : (s.withSymbols 1).withSymbols n = s.withSymbols (n + 1) := by
  have hsyms : (s.withSymbols 1).work.syms ++ (List.range n).map (s.withSymbols 1).symbolAhead =
      s.work.syms ++ (List.range (n + 1)).map s.symbolAhead := by
    rw [List.range_succ_eq_map, funext s.symbolAhead_withSymbols_one]
    simp [State.withSymbols, Function.comp_def]
  exact congrArg₂ (fun p ys => { s with bitpos := p, work := { s.work with syms := ys } })
    (s.bitpos_withSymbols_one n) hsyms

section
variable {s : State}

theorem State.has_withSymbols_one {n : Nat} (h : s.has (s.symbolWidth * (n + 1))) :
    (s.withSymbols 1).has (s.symbolWidth * n) :=
  (s.bitpos_withSymbols_one n).trans_le h

theorem simpleSymbol_inside (h : s.has s.symbolWidth) (hv : s.symbolAhead 0 < s.work.alphabet) :
    simpleSymbol s = .ok (s.withSymbols 1) := by
  rw [simpleSymbol_eq rfl h hv]
  simp [State.withSymbols, State.symbolAhead, State.symbolWidth]

theorem simpleSymbol_outside (h : s.has s.symbolWidth) (hv : s.work.alphabet ≤ s.symbolAhead 0) : simpleSymbol s =
    .error (.raise .formatSimpleHuffmanAlphabet "invalid simple-Huffman alphabet" (s.bitpos + s.symbolWidth)) := by
  have hread : readBits (bitlength (s.work.alphabet - 1)) s = _ := readBits_eq h
  rw [simpleSymbol, hread, Res.ok_bind]
  exact if_pos (by simpa [State.symbolAhead, State.symbolWidth] using hv)

/-- Symbols of the alphabet are read one after another (41_prefix_codes.md R105). -/
theorem iterate_simpleSymbol_inside {n : Nat} (h : s.has (s.symbolWidth * n)) (hv : ∀ j < n, s.symbolAhead j < s.work.alphabet) :
    iterate n simpleSymbol s = .ok (s.withSymbols n) := by
  induction n generalizing s with
  | zero => rw [s.withSymbols_zero]; rfl
  | succ n ih =>
    rw [iterate, simpleSymbol_inside (State.has_of_le h (Nat.le_mul_of_pos_right _ n.succ_pos)) (hv 0 n.succ_pos), Res.ok_bind,
      ih (State.has_withSymbols_one h) fun j hj => s.symbolAhead_withSymbols_one j ▸ hv (j + 1) (Nat.succ_lt_succ hj),
      s.withSymbols_one_withSymbols]

/-- The first symbol outside the alphabet ends the reading right after it (41_prefix_codes.md R106). -/
theorem iterate_simpleSymbol_outside {n j : Nat} (h : s.has (s.symbolWidth * n)) (hj : j < n)
    (hout : s.work.alphabet ≤ s.symbolAhead j) (hv : ∀ k < j, s.symbolAhead k < s.work.alphabet) : iterate n simpleSymbol s =
      .error (.raise .formatSimpleHuffmanAlphabet "invalid simple-Huffman alphabet" (s.bitpos + s.symbolWidth * (j + 1))) := by
  induction n generalizing s j with
  | zero => omega
  | succ n ih =>
    have hfirst : s.has s.symbolWidth := State.has_of_le h (Nat.le_mul_of_pos_right _ n.succ_pos)
    cases j with
    | zero => rw [iterate, simpleSymbol_outside hfirst hout, Res.error_bind, Nat.zero_add, Nat.mul_one]
    | succ j =>
      rw [iterate, simpleSymbol_inside hfirst (hv 0 j.succ_pos), Res.ok_bind, ← s.bitpos_withSymbols_one]
      exact ih (State.has_withSymbols_one h) (Nat.lt_of_succ_lt_succ hj) (s.symbolAhead_withSymbols_one j ▸ hout)
        fun k hk => s.symbolAhead_withSymbols_one k ▸ hv (k + 1) (Nat.succ_lt_succ hk)

theorem simpleSymbols_eq (h : s.has 2) (n : Nat) : simpleSymbols n s = iterate n simpleSymbol s.beforeSymbols >>= fun t =>
    if t.work.syms.Nodup then .ok (if n < 4 then assignSimple n false t else t)
    else raise .formatSimpleHuffmanSame "duplicate symbols" t := by
  rw [simpleSymbols, skip_eq h]
  rfl

end

/-- A row of NSYM (41_prefix_codes.md R105). -/
theorem exec_nsym {i : Instr} {n : Nat} (hi : (i, n) ∈ [(Instr.nsym1, 1), (.nsym2, 2), (.nsym3, 3), (.nsym4, 4)]) {s : State}
    (hs : s.state = .compressedSetup) : 1 ≤ n ∧ n ≤ 4 ∧ exec i s = deliver s (simpleSymbols n s) := by
  simp only [List.mem_cons, List.not_mem_nil, or_false, Prod.mk.injEq] at hi
  obtain ⟨rfl, rfl⟩ | ⟨rfl, rfl⟩ | ⟨rfl, rfl⟩ | ⟨rfl, rfl⟩ := hi <;>
    exact ⟨by decide, by decide, during_of_mem (by simp [hs]) _⟩

/-- Settles O31: a row of NSYM is the loop over its symbols and then the check for duplicates; the lengths are looked up entry by
entry. -/
theorem simpleCodeRowsReadTheirSymbols : Obligations.SimpleCodeRowsReadTheirSymbols := by
  intro i n hi s hs A W v vs h
  obtain ⟨h1, h4, hexec⟩ := exec_nsym hi hs
  have hhas : s.beforeSymbols.has (s.beforeSymbols.symbolWidth * n) := (Nat.add_assoc ..).trans_le h
  have hsyms : (s.beforeSymbols.withSymbols n).work.syms = vs := rfl
  have hend : s.bitpos + 2 + W * n = s.bitpos + (2 + W * n) := Nat.add_assoc ..
  rw [hexec, simpleSymbols_eq (State.has_of_le h (Nat.le_add_right ..))]
  refine ⟨fun hv hd => ?_, fun hv hd => ?_, fun j hj hout hv => ?_⟩
  · rw [iterate_simpleSymbol_inside hhas hv, Res.ok_bind, hsyms, if_pos hd]
    by_cases hn : n = 4
    · subst hn
      exact ⟨s.work.lens, by rw [← hend]; rfl, fun _ => rfl, fun hlt => absurd hlt (by decide)⟩
    · have hlengths : [[1], [1, 1], [1, 2, 2]].getD (n - 1) [] = simpleLengths n false := by
        obtain rfl | rfl | rfl : n = 1 ∨ n = 2 ∨ n = 3 := by omega
        all_goals rfl
      rw [if_pos (by omega), hlengths]
      exact ⟨lengthsOf A (vs.zip (simpleLengths n false)), by rw [← hend]; rfl, fun h => absurd h hn,
        fun _ => ⟨length_lengthsOf .., fun y hy => lengthsOf_zip_getElem? hd hy⟩⟩
  · rw [iterate_simpleSymbol_inside hhas hv, Res.ok_bind, hsyms, if_neg hd, ← hend]
    exact raises_deliver ..
  · rw [iterate_simpleSymbol_outside hhas hj hout hv, Res.error_bind, ← Nat.add_assoc]
    exact raises_deliver ..

/-! ### The code-length symbols -/

theorem exec_codeLengthRow {v : Nat} {i : Instr} (h : codeLengthRows[v]? = some i) {s : State}
    (hs : s.state = .compressedSetup) : exec i s = deliver s (symbolEffect .codeLength v s) :=
  exec_symbolRow (a := .codeLength) h (by simp [alphabetGuard, Guard.admits, hs])

/-- Settles O32: the row is the literal's effect on the workspace. -/
theorem codeLengthSymbolRows : Obligations.CodeLengthSymbolRows := by
  intro c i hc hi s l hs hl
  rw [exec_codeLengthRow hi hs, symbolEffect, if_pos hc, literalLength_eq, consume_spells hl, Res.ok_bind, deliver_ok,
    Work.literal_eq _ (by omega)]
  by_cases h0 : c = 0 <;> simp [State.advance, kraftOf, h0]

@[simp] theorem length_fillLengths (T : PrefixCode) (i l n : Nat) : (fillLengths T i l n).length = T.length := by
  induction n generalizing T i with
  | zero => rfl
  | succ n ih => simp [fillLengths, ih]

/-- A fill writes its run and nothing else (41_prefix_codes.md R116). -/
theorem fillLengths_getElem? {T : PrefixCode} {y : Nat} (hy : y < T.length) (i l n : Nat) :
    (fillLengths T i l n)[y]? = if i ≤ y ∧ y < i + n then some l else T[y]? := by
  induction n generalizing T i with
  | zero => rw [fillLengths, if_neg (by omega)]
  | succ n ih =>
    rw [fillLengths, ih (by simpa using hy), List.getElem?_set]
    by_cases hi : i = y
    · subst hi
      simp [hy]
    · rw [if_neg hi]
      exact if_congr (by omega) rfl rfl

/-- The repeat count as R115 writes it. -/
theorem Work.repeated_eq (w : Work) (newLen eb x : Nat) : w.repeated newLen eb x =
    (if (if w.repLen = newLen then w.rep else 0) = 0 then 0
      else ((if w.repLen = newLen then w.rep else 0) - 2) * 2 ^ eb) + x + 3 := by
  rw [Work.repeated]
  generalize (if w.repLen = newLen then w.rep else 0) = old
  rcases old.eq_zero_or_pos with rfl | hpos
  · rfl
  · simp only [if_pos hpos, if_neg hpos.ne', Nat.shiftLeft_eq]

section
variable {s : State} {newLen eb : Nat}

/-- A repeat code whose run lies in the alphabet. -/
theorem repeatLength_fits (h : s.has eb)
    (hfit : s.work.symbol + s.work.delta newLen eb (s.peek eb) ≤ s.work.alphabet) : repeatLength newLen eb s =
      .ok { s with bitpos := s.bitpos + eb, work := s.work.repeats newLen eb (s.peek eb) } := by
  rw [repeatLength_eq, readBits_eq h, Res.ok_bind]
  exact if_neg (Nat.not_lt.mpr hfit)

/-- A repeat code whose run passes the alphabet. -/
theorem repeatLength_overrun (h : s.has eb)
    (hover : s.work.alphabet < s.work.symbol + s.work.delta newLen eb (s.peek eb)) : repeatLength newLen eb s =
      .error (.raise .formatHuffmanSpace "repeat past alphabet" (s.bitpos + eb)) := by
  rw [repeatLength_eq, readBits_eq h, Res.ok_bind]
  exact if_pos hover

end

/-- A row of a repeat code: the codeword, then the repeat (41_prefix_codes.md R113). -/
theorem exec_repeatRow {s : State} {i : Instr} {sym eb newLen l : Nat} (hs : s.state = .compressedSetup)
    (hi : (i, sym, eb, newLen) ∈ [(Instr.clsym16, 16, 2, s.work.prevLen), (.clsym17, 17, 3, 0)])
    (hl : s.spells (some s.work.cl) sym l) : exec i s = deliver s (repeatLength newLen eb (s.advance l)) := by
  simp only [List.mem_cons, List.not_mem_nil, or_false, Prod.mk.injEq] at hi
  obtain ⟨rfl, rfl, rfl, rfl⟩ | ⟨rfl, rfl, rfl, rfl⟩ := hi
  · rw [exec_codeLengthRow (v := 16) rfl hs]
    simp only [symbolEffect, repeatPrevious, consume_spells hl]
    rfl
  · rw [exec_codeLengthRow (v := 17) rfl hs]
    simp only [symbolEffect, repeatZero, consume_spells hl]
    rfl

/-- Settles O33: the row is the repeat's effect on the workspace; what the fill writes is read entry by entry. -/
theorem repeatRowsFillTheLengths : Obligations.RepeatRowsFillTheLengths := by
  intro s l hs i sym eb newLen hi hl h old rep delta
  have hrep : s.work.repeated newLen eb ((s.advance l).peek eb) = rep := Work.repeated_eq ..
  have hdelta : s.work.delta newLen eb ((s.advance l).peek eb) = delta := congrArg (· - old) hrep
  have hhas : (s.advance l).has eb := State.advance_has h
  rw [exec_repeatRow hs hi hl, ← Nat.add_assoc]
  refine ⟨fun hfit => ?_, fun hover => ?_⟩
  · rw [repeatLength_fits hhas (by rwa [State.advance_work, hdelta]), deliver_ok, Work.repeats_eq, State.advance_work, hrep,
      hdelta]
    refine ⟨fillLengths s.work.lens s.work.symbol newLen delta, ?_, length_fillLengths .., fun y hy => ?_⟩
    · by_cases h0 : newLen = 0 <;> simp [State.advance, kraftOf, h0]
    · exact fillLengths_getElem? (by simpa using hy) ..
  · rw [repeatLength_overrun hhas (by rwa [State.advance_work, hdelta])]
    exact raises_deliver ..

end Sys2Proof.Machine
end

section
/-! Obligation O55. A prefix code that is read is valid, and a complex one fills the code space, which takes two symbols
(41_prefix_codes.md R117, R118). -/

namespace Sys2Proof.Machine

theorem kraftOf_le (l : Nat) : kraftOf l ≤ 16384 := by
  unfold kraftOf
  split
  · exact Nat.zero_le _
  · exact Nat.pow_le_pow_right (i := 15 - l) (j := 14) (by decide) (by omega)

/-- One used symbol takes at most half of the code space. -/
theorem kraft_le_usedSymbols (T : PrefixCode) (i : Nat) : kraft T ≤ 16384 * (usedSymbols T i).length := by
  induction T generalizing i with
  | nil => exact Nat.le_refl 0
  | cons l T ih =>
    have hrest := ih (i + 1)
    have hl := kraftOf_le l
    rw [kraft_eq, List.map_cons, List.sum_cons, ← kraft_eq, usedSymbols]
    by_cases h0 : l = 0
    · rw [if_pos h0, h0, kraftOf_zero]
      omega
    · rw [if_neg h0, List.length_cons]
      omega

theorem two_le_usedSymbols {T : PrefixCode} (h : kraft T = 32768) : 2 ≤ (usedSymbols T 0).length := by
  have := kraft_le_usedSymbols T 0
  omega

/-- A complex code fills the code space (41_prefix_codes.md R117). -/
theorem readComplex_kraft (s : State) : Ensures (fun t => kraft t.work.lens = 32768) (readComplex s) := by
  refine (Ensures.iterateWhile (P := fun t => t.work.alphabet = s.work.alphabet) (fun t _ => clcl_keeps_alphabet) _ rfl).bind
    fun t ht => (checkCodeLengths_readsLengths ht).bind fun u hu => ?_
  refine (Ensures.iterateWhile (P := State.readsLengths s.work.alphabet) (fun v hc hv => ?_) _ hu).bind fun v ⟨k, hk, _⟩ => ?_
  · exact ensures_runCode fun _ _ _ _ _ => codeLength_readsLengths hv (of_decide_eq_true hc).1
  · simp only [checkSpace, ensures_ite, ensures_ok, ensures_raise, implies_true, and_true]
    intro hspace
    have hleft := hk.space
    rw [hk.lens, kraft_append, kraft_replicate, kraftOf_zero]
    omega

theorem simpleSymbols_keeps_hskip (n : Nat) (s : State) :
    Ensures (fun t => t.work.hskip = s.work.hskip) (simpleSymbols n s) := by
  have hturn (t : State) (ht : t.work.hskip = s.work.hskip) :
      Ensures (fun u => u.work.hskip = s.work.hskip) (simpleSymbol t) := by simp [simpleSymbol, ht]
  refine Ensures.bind (P := fun t => t.work.hskip = s.work.hskip) (by simp) fun t ht => ?_
  have hloop : Ensures (fun u => u.work.hskip = s.work.hskip)
      (iterate n simpleSymbol { t with work := { t.work with syms := [] } }) := .iterate hturn n ht
  refine hloop.bind fun u hu => ?_
  simp only [ensures_ite, ensures_raise, Res.pure_eq, ensures_ok, implies_true, and_true]
  intro _
  split <;> exact hu

theorem readSimple_keeps_hskip (s : State) : Ensures (fun t => t.work.hskip = s.work.hskip) (readSimple s) := by
  have hsyms : Ensures (fun t => t.work.hskip = s.work.hskip) (runElement (.field .nsym) s) := by
    refine ensures_runField ?_
    simp only [fieldRows, bare, List.forall_mem_cons, List.not_mem_nil, IsEmpty.forall_iff, implies_true, and_true]
    exact ⟨fun _ _ => simpleSymbols_keeps_hskip 1 s, fun _ _ => simpleSymbols_keeps_hskip 2 s,
      fun _ _ => simpleSymbols_keeps_hskip 3 s, fun _ _ => simpleSymbols_keeps_hskip 4 s⟩
  have hselect (t : State) (b : Bool) : Ensures (fun u => u.work.hskip = t.work.hskip) (selectTree b t) := by
    simp [selectTree, assignSimple]
  refine hsyms.bind fun t ht => ?_
  split
  · rw [← ht]
    refine ensures_runField ?_
    simp only [fieldRows, bare, List.forall_mem_cons, List.not_mem_nil, IsEmpty.forall_iff, implies_true, and_true]
    exact ⟨fun _ _ => hselect t false, fun _ _ => hselect t true⟩
  · exact (ensures_ok t).mpr ht

/-- A code that is not simple fills the code space. -/
theorem readPrefixCode_kraft (A : Nat) (s : State) :
    Ensures (fun t => t.work.hskip ≠ 1 → kraft t.work.lens = 32768) (readPrefixCode A s) := by
  refine (ensures_true _).bind fun t _ => ?_
  split
  · rename_i hsimple
    exact (readSimple_keeps_hskip t).mono fun u hu hne => absurd (hu.trans hsimple) hne
  · exact (readComplex_kraft t).mono fun u hu _ => hu

/-- Settles O55: validity is a lemma about reading; a complex code has two used symbols, as one alone takes half of the space. -/
theorem prefixCodesReadAreValid : Obligations.PrefixCodesReadAreValid := fun A s t _ ht =>
  ⟨readPrefixCode_valid A s t ht, fun hcomplex => two_le_usedSymbols (readPrefixCode_kraft A s t ht hcomplex)⟩

end Sys2Proof.Machine
end

section
/-! Obligations O25, O26, O27, O35 and O56. The rows of the stream header, of a meta-block header and of a context map, each under
its guard, and the allocation sites (42_metablock.md R128 to R136, R149, R150, R157, R158). -/

namespace Sys2Proof.Machine

/-! ### The effects of the rows -/

section
variable {s : State}

theorem setWindow_eq {n : Nat} (h : s.has n) (w : Nat) :
    setWindow n w s = .ok { s with bitpos := s.bitpos + n, wbits := w, state := .metaBlockHeader } := by
  rw [setWindow, skip_eq h]
  rfl

theorem largeWindow_raises {n : Nat} (h : s.has n) (hlarge : s.params.largeWindow = false) :
    largeWindow n s = .error (.raise .formatWindowBits "invalid window-size code" (s.bitpos + n)) := by
  rw [largeWindow, skip_eq h, Res.ok_bind, if_neg (by simp [hlarge])]
  rfl

theorem largeWindow_refuses {n : Nat} (h : s.has n) (hlarge : s.params.largeWindow = true) :
    largeWindow n s = .error (.refuse .largeWindow) := by
  rw [largeWindow, skip_eq h, Res.ok_bind, if_pos (by exact hlarge)]

theorem notLastHeader_eq (h : s.has 1) : notLastHeader s = .ok { s with bitpos := s.bitpos + 1, isLast := false } := by
  rw [notLastHeader, skip_eq h]
  rfl

theorem lastHeader_eq (h : s.has 2) :
    lastHeader s = .ok { s with bitpos := s.bitpos + 2, isLast := true, isLastEmpty := false } := by
  rw [lastHeader, skip_eq h]
  rfl

theorem lastEmptyHeader_eq (h : s.has 2) : lastEmptyHeader s =
    finalPadding { s with bitpos := s.bitpos + 2, isLast := true, isLastEmpty := true } >>= fun t => .ok (t.goto .done) := by
  rw [lastEmptyHeader, skip_eq h]
  rfl

theorem dataNibbles_eq (h : s.has 2) (n : Nat) : dataNibbles n s = .ok { s with
    bitpos := s.bitpos + 2, isMetadata := false, work := { s.work with nibbles := n, acc := 0, index := 0 } } := by
  rw [dataNibbles, skip_eq h]
  rfl

theorem metadataNibbles_eq (h : s.has 2) :
    metadataNibbles s = .ok { s with bitpos := s.bitpos + 2, isMetadata := true, state := .metadata } := by
  rw [metadataNibbles, skip_eq h]
  rfl

theorem lengthNibble_eq (h : s.has 4) (x : Nat) : lengthNibble x s =
    let v := s.work.acc ||| (x * 2 ^ (4 * s.work.index))
    let final := s.work.index + 1 = s.work.nibbles
    if final ∧ 4 < s.work.nibbles ∧ x = 0 then
      .error (.raise .formatExuberantNibble "invalid final nibble" (s.bitpos + 4))
    else .ok { s with
      bitpos := s.bitpos + 4, mlen := if final then v + 1 else s.mlen,
      work := { s.work with acc := v, index := s.work.index + 1 } } := by
  by_cases hfinal : s.work.index + 1 = s.work.nibbles <;>
    simp [lengthNibble, skip_eq h, hfinal, raise, State.advance, Nat.shiftLeft_eq]

/-- The decoder state of the body to come (42_metablock.md R136). -/
def State.bodyState (s : State) : DecState := if s.isUncompressed then .uncompressedBody else .compressedSetup

/-- Before the first byte of output the ring buffer is allocated in two stages (42_metablock.md R158). -/
theorem dispatchBody_first (h : s.pos = 0) : dispatchBody s =
    allocate .ringBuffer1 .allocRingBuffer1 { s with remaining := s.mlen } >>= fun t =>
      allocate .ringBuffer2 .allocRingBuffer2 t >>= fun u => .ok (u.goto u.bodyState) := by
  rw [dispatchBody, if_pos (by exact h)]
  rfl

theorem dispatchBody_later (h : s.pos ≠ 0) :
    dispatchBody s = .ok { s with remaining := s.mlen, state := s.bodyState } := by
  rw [dispatchBody, if_neg (by exact h)]
  rfl

/-- Where its ring-buffer sites do not fail, the dispatch sets the bytes to produce and the next state (42_metablock.md R136). -/
theorem dispatchBody_eq (h : s.ringReady) :
    dispatchBody s = .ok { s with remaining := s.mlen, state := s.bodyState } := by
  by_cases hpos : s.pos = 0
  · obtain ⟨hfirst, hsecond⟩ := h hpos
    rw [dispatchBody_first hpos, allocate_eq _ (by exact hfirst), Res.ok_bind, allocate_eq _ (by exact hsecond)]
    rfl
  · exact dispatchBody_later hpos

theorem uncompressedFlag_eq (h : s.has 1) (hring : s.ringReady) (b : Bool) : uncompressedFlag b s = .ok { s with
    bitpos := s.bitpos + 1, isUncompressed := b, remaining := s.mlen,
    state := if b then .uncompressedBody else .compressedSetup } := by
  rw [uncompressedFlag, skip_eq h, Res.ok_bind, dispatchBody_eq (by exact hring)]
  rfl

theorem mapZero_eq {l : Nat} (h : s.spells (some s.work.lens) 0 l) : mapZero s =
    .ok { s with bitpos := s.bitpos + l, work := { s.work with map := s.work.map ++ [0] } } := by
  rw [mapZero, consume_spells h]
  rfl

theorem mapRun_eq {v l : Nat} (h : s.spells (some s.work.lens) v l) (hx : s.has (l + v)) : mapRun v s =
    let run := 2 ^ v + s.inp.field (s.bitpos + l) v
    if s.work.mapSize < s.work.map.length + run then
      .error (.raise .formatContextMapRepeat "context-map repeat run too long" (s.bitpos + (l + v)))
    else .ok { s with
      bitpos := s.bitpos + (l + v), work := { s.work with map := s.work.map ++ List.replicate run 0 } } := by
  rw [mapRun, consume_spells h, Res.ok_bind, readBits_eq (State.advance_has hx), Res.ok_bind, State.advance_advance,
    Nat.shiftLeft_eq, Nat.one_mul]
  rfl

theorem mapValue_eq {v l : Nat} (h : s.spells (some s.work.lens) v l) : mapValue v s = .ok { s with
    bitpos := s.bitpos + l, work := { s.work with map := s.work.map ++ [v - s.work.rlemax] } } := by
  rw [mapValue, consume_spells h]
  rfl

theorem allocate_raises {site : AllocSite} (k : ErrorKind) (h : site ∈ s.params.allocFail) :
    allocate site k s = .error (.raise k "allocation failed" s.bitpos) := if_pos h

end

/-! ### The rows -/

/-- Settles O25: each row is its effect under STREAM_HEADER's guard. -/
theorem windowSizeRowsSetTheWindow : Obligations.WindowSizeRowsSetTheWindow := by
  have hexec {i : Instr} {s : State} (hs : s.state = .streamHeader) (hi : guardOf i = .states [.streamHeader]) :
      exec i s = deliver s (elem i s) := exec_of_admits hi (by simp [Guard.admits, hs])
  refine ⟨fun i n w hi s hs h => ?_, fun s hs h => ?_⟩
  · have hrow (hg : guardOf i = .states [.streamHeader]) (he : elem i s = setWindow n w s) :
        exec i s = .next { s with bitpos := s.bitpos + n, wbits := w, state := .metaBlockHeader } := by
      rw [hexec hs hg, he, setWindow_eq h, deliver_ok]
    simp only [List.mem_cons, List.not_mem_nil, or_false, Prod.mk.injEq] at hi
    obtain ⟨rfl, rfl, rfl⟩ | ⟨rfl, rfl, rfl⟩ | ⟨rfl, rfl, rfl⟩ | ⟨rfl, rfl, rfl⟩ | ⟨rfl, rfl, rfl⟩ | ⟨rfl, rfl, rfl⟩ |
      ⟨rfl, rfl, rfl⟩ | ⟨rfl, rfl, rfl⟩ | ⟨rfl, rfl, rfl⟩ | ⟨rfl, rfl, rfl⟩ | ⟨rfl, rfl, rfl⟩ | ⟨rfl, rfl, rfl⟩ |
      ⟨rfl, rfl, rfl⟩ | ⟨rfl, rfl, rfl⟩ | ⟨rfl, rfl, rfl⟩ := hi <;> exact hrow rfl rfl
  · rw [hexec hs (i := .wbitsLarge) rfl, show elem .wbitsLarge s = largeWindow 7 s from rfl]
    refine ⟨fun hlarge => ?_, fun hlarge => ?_⟩
    · rw [largeWindow_raises h hlarge]
      exact raises_deliver ..
    · rw [largeWindow_refuses h hlarge, deliver_refuse]

/-- A row of a meta-block header. -/
theorem exec_metaBlockHeaderRow {i : Instr} {s : State} (hs : s.state = .metaBlockHeader)
    (hi : guardOf i = .states [.metaBlockHeader]) : exec i s = deliver s (elem i s) :=
  exec_of_admits hi (by simp [Guard.admits, hs])

/-- A row of a meta-block header whose effect completes. -/
theorem exec_metaBlockHeaderRow_ok {i : Instr} {s t : State} (hs : s.state = .metaBlockHeader)
    (hi : guardOf i = .states [.metaBlockHeader]) (h : elem i s = .ok t) : exec i s = .next t := by
  rw [exec_metaBlockHeaderRow hs hi, h, deliver_ok]

/-- Settles O26: each row is its effect under MHDR's guard; the padding of an empty last meta-block passes where the stream ends
cleanly. -/
theorem metaBlockHeaderRowsSetTheFlags : Obligations.MetaBlockHeaderRowsSetTheFlags := by
  intro s hs
  refine ⟨fun h => exec_metaBlockHeaderRow_ok hs rfl (notLastHeader_eq h),
    fun h => exec_metaBlockHeaderRow_ok hs rfl (lastHeader_eq h), fun h => ?_, fun h i n hi => ?_,
    fun h => exec_metaBlockHeaderRow_ok hs rfl (metadataNibbles_eq h)⟩
  · intro t hclean
    obtain ⟨hfits, hzero, hend⟩ := hclean rfl
    refine exec_metaBlockHeaderRow_ok hs rfl ?_
    rw [show elem .mhdrLast1Empty1 s = lastEmptyHeader s from rfl, lastEmptyHeader_eq h, finalPadding_eq hfits hzero hend]
    rfl
  · simp only [List.mem_cons, List.not_mem_nil, or_false, Prod.mk.injEq] at hi
    obtain ⟨rfl, rfl⟩ | ⟨rfl, rfl⟩ | ⟨rfl, rfl⟩ := hi <;> exact exec_metaBlockHeaderRow_ok hs rfl (dataNibbles_eq h _)

/-- Settles O27: a nibble by whether it is a zero last one of more than four, ISUNCOMPRESSED with the dispatch. -/
theorem lengthRowsSetMlenAndTheBody : Obligations.LengthRowsSetMlenAndTheBody := by
  intro s hs
  refine ⟨fun x h => ⟨fun hfinal => ?_, fun hfinal => ?_⟩, fun i b hi h hring => ?_⟩
  · exact exec_metaBlockHeaderRow_ok hs rfl ((lengthNibble_eq h x).trans (if_neg hfinal))
  · rw [exec_metaBlockHeaderRow hs (i := .mlenNibble x) rfl, show elem (.mlenNibble x) s = lengthNibble x s from rfl,
      (lengthNibble_eq h x).trans (if_pos hfinal)]
    exact raises_deliver ..
  · simp only [List.mem_cons, List.not_mem_nil, or_false, Prod.mk.injEq] at hi
    obtain ⟨rfl, rfl⟩ | ⟨rfl, rfl⟩ := hi <;> exact exec_metaBlockHeaderRow_ok hs rfl (uncompressedFlag_eq h hring _)

/-- Settles O35: each row is its effect under SETUP's guard; a run by whether it fits the map. -/
theorem contextMapSymbolRows : Obligations.ContextMapSymbolRows := by
  intro s l hs
  refine ⟨fun h => exec_setupRow hs rfl (mapZero_eq h), fun v h hx => ⟨fun hfits => ?_, fun hover => ?_⟩,
    fun v h => exec_setupRow hs rfl (mapValue_eq h)⟩
  · exact exec_setupRow hs rfl ((mapRun_eq h hx).trans (if_neg (Nat.not_lt.mpr hfits)))
  · rw [exec_of_admits (i := .cmapsymRun v) (g := .states [.compressedSetup]) rfl (by simp [Guard.admits, hs]),
      show elem (.cmapsymRun v) s = mapRun v s from rfl, (mapRun_eq h hx).trans (if_pos hover)]
    exact raises_deliver ..

/-- Settles O56: the check comes first, or right after the count that is read. -/
theorem allocationSitesRaiseTheirKinds : Obligations.AllocationSitesRaiseTheirKinds := by
  intro s
  have hparams {t : State} (ht : runElement (.field .varlen) s = .ok t) : t.params = s.params :=
    ((runElement_runs _ s).frame t ht).params
  have hfails {site : AllocSite} (k : ErrorKind) {t : State} (h : site ∈ s.params.allocFail) (ht : t.params = s.params)
      {f : State → Res State} : ∃ m, (allocate site k t >>= f) = .error (.raise k m t.bitpos) :=
    ⟨_, by rw [allocate_raises k (ht ▸ h), Res.error_bind]⟩
  refine ⟨fun h => hfails _ h rfl, fun h => hfails _ h rfl, fun h c t ht hcount => ?_, fun h n t ht => ?_,
    fun hpos h => ?_, fun hpos hfirst h => ?_⟩
  · obtain ⟨m, hm⟩ := hfails .allocBlockTypeTrees (t := t.setTracker c (.fresh (t.work.count + 1))) h (by simp [hparams ht])
    rw [blockHeader_eq, ht, Res.ok_bind, if_pos (by omega)]
    exact ⟨m, by rwa [State.setTracker_bitpos] at hm⟩
  · rw [contextMap, ht]
    exact hfails _ h (hparams ht)
  · rw [dispatchBody_first hpos]
    exact hfails _ (t := { s with remaining := s.mlen }) h rfl
  · rw [dispatchBody_first hpos, allocate_eq _ (by exact hfirst)]
    exact hfails _ (t := { s with remaining := s.mlen }) h rfl

end Sys2Proof.Machine
end

section
/-! Obligation O43. STREAM_HEADER: the window-size field is read in parts of 1, 3 and 3 bits, and a part that the input cuts off
raises at its first bit (42_metablock.md R128 to R131; 40_bitreader.md R97). -/

namespace Sys2Proof.Machine

/-! ### A field that the input cuts off -/

section
variable {s : State}

theorem State.peek_prefix {n : Nat} (h : s.has n) (h16 : n ≤ 16) : bitsOf n (s.peek n) <+: s.window := by
  rw [← Memory.bits_eq_bitsOf]
  exact State.window_prefix h h16

/-- Fewer than `n` bits are left, and no row of the field is shorter than that and agrees with the bits that are: the field is cut
off, at the part that it is in. -/
theorem runElement_cut {f : Field} {bits : Bits} {n : Nat} (hn : 0 < n) (hbits : bits <+: s.window) (hshort : ¬s.has n)
    (hrows : ∀ r ∈ fieldRows f, r.fixed.length < n → ¬r.fixed <+: bits ∧ ¬bits <+: r.fixed)
    {k : Nat} (hpart : ∀ a, bits.length ≤ a → a < n → f.readBefore a = k) :
    runElement (.field f) s = .error (.raise .invalidArguments "read past end of input" (s.bitpos + k)) := by
  have hlength : s.window.length < n := by
    rw [State.window_length]
    simp only [State.has] at hshort
    omega
  have hnone : (fieldRows f).find? (fun r => r.fixed.isPrefixOf s.window) = none := by
    refine List.find?_eq_none.mpr fun r hr hfixed => ?_
    have hprefix := List.isPrefixOf_iff_prefix.mp hfixed
    obtain ⟨hnot, hnot'⟩ := hrows r hr (hprefix.length_le.trans_lt hlength)
    exact (List.prefix_or_prefix_of_prefix hprefix hbits).elim hnot hnot'
  refine runElement_short ?_
  rw [decode, decodeField, hnone, hpart _ hbits.length_le hlength]

/-! ### The window-size field -/

/-- The row of one bit; those of four bits and of seven bits begin with a 1 (30_encoding.md R73). -/
theorem runElement_wbits_one (h : s.has 1) (hv : s.peek 1 = 0) : runElement (.field .wbits) s = setWindow 1 16 s :=
  runElement_bare (l := [0]) (i := .wbits16) (by simp [fieldRows]) h (by decide) hv rfl

theorem runElement_wbits_four (h : s.has 4) {n : Nat} (hv : s.peek 4 = 1 + 2 * n) (hn : n ≠ 0) (hlt : n < 8) :
    runElement (.field .wbits) s = setWindow 4 (17 + n) s := by
  obtain rfl | rfl | rfl | rfl | rfl | rfl | rfl : n = 1 ∨ n = 2 ∨ n = 3 ∨ n = 4 ∨ n = 5 ∨ n = 6 ∨ n = 7 := by omega
  · exact runElement_bare (l := [1, 1, 0, 0]) (i := .wbits18) (by simp [fieldRows]) h (by decide) hv rfl
  · exact runElement_bare (l := [1, 0, 1, 0]) (i := .wbits19) (by simp [fieldRows]) h (by decide) hv rfl
  · exact runElement_bare (l := [1, 1, 1, 0]) (i := .wbits20) (by simp [fieldRows]) h (by decide) hv rfl
  · exact runElement_bare (l := [1, 0, 0, 1]) (i := .wbits21) (by simp [fieldRows]) h (by decide) hv rfl
  · exact runElement_bare (l := [1, 1, 0, 1]) (i := .wbits22) (by simp [fieldRows]) h (by decide) hv rfl
  · exact runElement_bare (l := [1, 0, 1, 1]) (i := .wbits23) (by simp [fieldRows]) h (by decide) hv rfl
  · exact runElement_bare (l := [1, 1, 1, 1]) (i := .wbits24) (by simp [fieldRows]) h (by decide) hv rfl

theorem runElement_wbits_large (h : s.has 7) (hv : s.peek 7 = 17) : runElement (.field .wbits) s = largeWindow 7 s :=
  runElement_bare (l := [1, 0, 0, 0, 1, 0, 0]) (i := .wbitsLarge) (by simp [fieldRows]) h (by decide) hv rfl

theorem runElement_wbits_seven (h : s.has 7) {m : Nat} (hv : s.peek 7 = 1 + 16 * m) (hm : m ≠ 1) (hlt : m < 8) :
    runElement (.field .wbits) s = setWindow 7 (if m = 0 then 17 else 8 + m) s := by
  obtain rfl | rfl | rfl | rfl | rfl | rfl | rfl : m = 0 ∨ m = 2 ∨ m = 3 ∨ m = 4 ∨ m = 5 ∨ m = 6 ∨ m = 7 := by omega
  · exact runElement_bare (l := [1, 0, 0, 0, 0, 0, 0]) (i := .wbits17) (by simp [fieldRows]) h (by decide) hv rfl
  · exact runElement_bare (l := [1, 0, 0, 0, 0, 1, 0]) (i := .wbits10) (by simp [fieldRows]) h (by decide) hv rfl
  · exact runElement_bare (l := [1, 0, 0, 0, 1, 1, 0]) (i := .wbits11) (by simp [fieldRows]) h (by decide) hv rfl
  · exact runElement_bare (l := [1, 0, 0, 0, 0, 0, 1]) (i := .wbits12) (by simp [fieldRows]) h (by decide) hv rfl
  · exact runElement_bare (l := [1, 0, 0, 0, 1, 0, 1]) (i := .wbits13) (by simp [fieldRows]) h (by decide) hv rfl
  · exact runElement_bare (l := [1, 0, 0, 0, 0, 1, 1]) (i := .wbits14) (by simp [fieldRows]) h (by decide) hv rfl
  · exact runElement_bare (l := [1, 0, 0, 0, 1, 1, 1]) (i := .wbits15) (by simp [fieldRows]) h (by decide) hv rfl

/-- The parts of the window-size field start at its bits 0, 1 and 4. -/
theorem runElement_wbits_cut {n k v : Nat} (hpart : (n, k, v) ∈ [(1, 0, 0), (4, 1, 1), (7, 4, 1)])
    (hbits : bitsOf k v <+: s.window) (hshort : ¬s.has n) : runElement (.field .wbits) s =
      .error (.raise .invalidArguments "read past end of input" (s.bitpos + k)) := by
  simp only [List.mem_cons, List.not_mem_nil, or_false, Prod.mk.injEq] at hpart
  obtain ⟨rfl, rfl, rfl⟩ | ⟨rfl, rfl, rfl⟩ | ⟨rfl, rfl, rfl⟩ := hpart
  all_goals
    refine runElement_cut (by decide) hbits hshort (by decide) fun a hle hlt => ?_
    simp only [length_bitsOf] at hle
    simp only [Field.readBefore]
    split_ifs <;> omega

/-- With its dictionary checked and an input that it does not end at once on, STREAM_HEADER reads the window-size field. -/
theorem opStreamHeader_eq (hdict : ∀ d, s.dict = some d → d.size = Config.dictSize)
    (hempty : ¬(s.inp.size = 0 ∧ s.params.emptyInputOk = true)) : opStreamHeader s = runElement (.field .wbits) s := by
  have hheader : opStreamHeader.header s = runElement (.field .wbits) s := if_neg hempty
  unfold opStreamHeader
  split
  · rw [if_pos (hdict _ ‹_›), hheader]
  · exact hheader

end

/-- Settles O43: the three parts of the field give its value in 1, 4 or 7 bits, which names its row. -/
theorem streamHeaderReadsTheWindowSize : Obligations.StreamHeaderReadsTheWindowSize := by
  intro s hs hdict hempty p b n m sets
  have hexec : exec .streamHeader s = deliver s (runElement (.field .wbits) s) := by
    rw [← opStreamHeader_eq hdict hempty]
    exact during_of_mem (by simp [hs]) _
  have hn : n < 8 := s.inp.field_lt _ 3
  have hm : m < 8 := s.inp.field_lt _ 3
  have hfour : s.peek 4 = b + 2 * n := s.peek_add 1 3
  have hseven : s.peek 7 = s.peek 4 + 16 * m := s.peek_add 4 3
  rw [hexec]
  refine ⟨fun h hb => ?_, fun h hb hn0 => ?_, fun h hb hn0 hm0 => ?_, fun h hb hn0 hm2 => ?_, fun h hb hn0 hm1 hlarge => ?_,
    fun h hb hn0 hm1 hlarge => ?_, fun h => ?_, fun h1 h hb => ?_, fun h4 h hb hn0 => ?_⟩
  · rw [runElement_wbits_one h hb, setWindow_eq h, deliver_ok]
  · rw [runElement_wbits_four h (by omega) hn0 hn, setWindow_eq h, deliver_ok]
  · rw [runElement_wbits_seven h (m := m) (by omega) (by omega) hm, setWindow_eq h, deliver_ok, if_pos hm0]
  · rw [runElement_wbits_seven h (m := m) (by omega) (by omega) hm, setWindow_eq h, deliver_ok, if_neg (by omega)]
  · rw [runElement_wbits_large h (by omega), largeWindow_raises h hlarge]
    exact raises_deliver ..
  · rw [runElement_wbits_large h (by omega), largeWindow_refuses h hlarge, deliver_refuse]
  · rw [runElement_wbits_cut (k := 0) (v := 0) (by simp) List.nil_prefix h]
    exact raises_deliver ..
  · have hbits := State.peek_prefix h1 (by decide)
    rw [show s.peek 1 = 1 from hb] at hbits
    rw [runElement_wbits_cut (by simp) hbits h]
    exact raises_deliver ..
  · have hbits := State.peek_prefix h4 (by decide)
    rw [show s.peek 4 = 1 by omega] at hbits
    rw [runElement_wbits_cut (by simp) hbits h]
    exact raises_deliver ..

end Sys2Proof.Machine
end

section
/-! SUPPORT. A number read in groups of bits, the low group first: the nibbles of MLEN - 1 and the bytes of MSKIPLEN - 1
(42_metablock.md R134, R138). -/

namespace Sys2Proof.Machine

/-- A group of bits goes in above the bits before it. -/
theorem Memory.field_or (m : Memory) (p a b : Nat) : m.field p a ||| m.field (p + a) b * 2 ^ a = m.field p (a + b) := by
  rw [m.field_add, Nat.or_comm, Nat.mul_comm, ← Nat.two_pow_add_eq_or_of_lt (m.field_lt p a), Nat.add_comm]

/-- The high bits of a field are zero where it fits in its low bits. -/
theorem Memory.field_high_eq_zero_iff (m : Memory) (p a b : Nat) : m.field (p + a) b = 0 ↔ m.field p (a + b) < 2 ^ a := by
  have hlow := m.field_lt p a
  rw [m.field_add]
  refine ⟨fun h => by simpa [h] using hlow, fun h => ?_⟩
  by_contra hne
  have := Nat.le_mul_of_pos_right (2 ^ a) (Nat.pos_of_ne_zero hne)
  omega

/-- The last turn of a loop comes after the others. -/
theorem iterate_concat (n : Nat) (f : State → Res State) (s : State) : iterate (n + 1) f s = iterate n f s >>= f := by
  induction n generalizing s with
  | zero => simp only [iterate, Res.ok_bind]; cases f s <;> rfl
  | succ n ih =>
    rw [iterate]
    cases h : f s with
    | error e => rw [iterate, h]; rfl
    | ok t => rw [Res.ok_bind, ih, iterate, h, Res.ok_bind]

/-- A loop whose turns lead along a path of states. -/
theorem iterate_path {n : Nat} {f : State → Res State} {x : Nat → State} (hf : ∀ j < n, f (x j) = .ok (x (j + 1))) :
    iterate n f (x 0) = .ok (x n) := by
  induction n with
  | zero => rfl
  | succ n ih => rw [iterate_concat, ih fun j hj => hf j (by omega), Res.ok_bind, hf n (by omega)]

/-- The state after `j` groups of `w` bits of a number. -/
def State.withGroups (s : State) (w j : Nat) : State :=
  { s with bitpos := s.bitpos + w * j, work := { s.work with acc := s.inp.field s.bitpos (w * j), index := j } }

section
variable {s : State}

theorem State.withGroups_zero (hacc : s.work.acc = 0) (hindex : s.work.index = 0) (w : Nat) : s.withGroups w 0 = s := by
  calc s.withGroups w 0 = { s with work := { s.work with acc := 0, index := 0 } } := rfl
    _ = { s with work := { s.work with acc := s.work.acc, index := s.work.index } } := by rw [hacc, hindex]
    _ = s := rfl

theorem State.withGroups_has {w j : Nat} (h : s.has (w * (j + 1))) : (s.withGroups w j).has w := by
  simp only [State.has, State.withGroups, State.inputBits, Nat.mul_succ] at h ⊢
  omega

/-- The next group of a number has its place in the value. -/
theorem State.withGroups_or (s : State) (w j : Nat) :
    (s.withGroups w j).work.acc ||| (s.withGroups w j).peek w * 2 ^ (w * j) = s.inp.field s.bitpos (w * (j + 1)) :=
  s.inp.field_or s.bitpos (w * j) w

theorem State.withGroups_peek_eq_zero_iff (s : State) (w j : Nat) :
    (s.withGroups w j).peek w = 0 ↔ s.inp.field s.bitpos (w * (j + 1)) < (2 ^ w) ^ j := by
  rw [← pow_mul]
  exact s.inp.field_high_eq_zero_iff s.bitpos (w * j) w

/-! ### MLEN -/

theorem runElement_mlen (h : s.has 4) : runElement (.field .mlen) s = lengthNibble (s.peek 4) s :=
  runElement_row (f := .mlen) (r := wide [] 4 .mlenNibble) (by simp [fieldRows]) h (by decide) rfl

/-- One nibble of MLEN - 1, after `j` others. -/
theorem runElement_mlen_withGroups {j : Nat} (h : s.has (4 * (j + 1))) : runElement (.field .mlen) (s.withGroups 4 j) =
    let v := s.inp.field s.bitpos (4 * (j + 1))
    if j + 1 = s.work.nibbles ∧ 4 < s.work.nibbles ∧ v < 16 ^ j then
      .error (.raise .formatExuberantNibble "invalid final nibble" (s.bitpos + 4 * (j + 1)))
    else .ok { s.withGroups 4 (j + 1) with mlen := if j + 1 = s.work.nibbles then v + 1 else s.mlen } := by
  rw [runElement_mlen (State.withGroups_has h), lengthNibble_eq (State.withGroups_has h)]
  simp only [State.withGroups_peek_eq_zero_iff]
  have hor := s.withGroups_or 4 j
  simp only [State.withGroups] at hor ⊢
  rw [hor]
  rfl

/-- The nibbles of MLEN - 1, the last of more than four not zero (42_metablock.md R134). -/
theorem iterate_mlen (hacc : s.work.acc = 0) (hindex : s.work.index = 0) {n : Nat} (hn : s.work.nibbles = n + 1)
    (h : s.has (4 * (n + 1))) : iterate (n + 1) (runElement (.field .mlen)) s =
    let v := s.inp.field s.bitpos (4 * (n + 1))
    if 4 < n + 1 ∧ v < 16 ^ n then
      .error (.raise .formatExuberantNibble "invalid final nibble" (s.bitpos + 4 * (n + 1)))
    else .ok { s.withGroups 4 (n + 1) with mlen := v + 1 } := by
  have hfirst : iterate n (runElement (.field .mlen)) s = .ok (s.withGroups 4 n) := by
    have hpath := iterate_path (n := n) (x := s.withGroups 4) (f := runElement (.field .mlen)) fun j hj => by
      rw [runElement_mlen_withGroups (State.has_of_le h (by omega))]
      simp only [show ¬j + 1 = s.work.nibbles by omega, false_and, if_false]
      rfl
    rwa [State.withGroups_zero hacc hindex] at hpath
  rw [iterate_concat, hfirst, Res.ok_bind, runElement_mlen_withGroups h]
  simp only [hn, true_and, if_true]

/-! ### MSKIPLEN -/

theorem runElement_mskiplen (h : s.has 8) : runElement (.field .mskiplen) s = skipLengthByte (s.peek 8) s :=
  runElement_row (f := .mskiplen) (r := wide [] 8 .mskiplenByte) (by simp [fieldRows]) h (by decide) rfl

/-- One byte of MSKIPLEN - 1, after `j` others. -/
theorem runElement_mskiplen_withGroups {j : Nat} (h : s.has (8 * (j + 1))) :
    runElement (.field .mskiplen) (s.withGroups 8 j) =
    if j + 1 = s.work.skb ∧ 1 < s.work.skb ∧ s.inp.field s.bitpos (8 * (j + 1)) < 256 ^ j then
      .error (.raise .formatExuberantMetaNibble "invalid meta-block size nibble" (s.bitpos + 8 * (j + 1)))
    else .ok (s.withGroups 8 (j + 1)) := by
  rw [runElement_mskiplen (State.withGroups_has h), skipLengthByte_eq (State.withGroups_has h)]
  simp only [State.withGroups_peek_eq_zero_iff]
  have hor := s.withGroups_or 8 j
  simp only [State.withGroups] at hor ⊢
  rw [hor]
  rfl

/-- The bytes of MSKIPLEN - 1, the last of several not zero (42_metablock.md R138). -/
theorem iterate_mskiplen (hacc : s.work.acc = 0) (hindex : s.work.index = 0) (h : s.has (8 * s.work.skb)) :
    iterate s.work.skb (runElement (.field .mskiplen)) s =
    if 1 < s.work.skb ∧ s.inp.field s.bitpos (8 * s.work.skb) < 256 ^ (s.work.skb - 1) then
      .error (.raise .formatExuberantMetaNibble "invalid meta-block size nibble" (s.bitpos + 8 * s.work.skb))
    else .ok (s.withGroups 8 s.work.skb) := by
  cases hskb : s.work.skb with
  | zero => simp [iterate, State.withGroups_zero hacc hindex]
  | succ n =>
    rw [hskb] at h
    have hfirst : iterate n (runElement (.field .mskiplen)) s = .ok (s.withGroups 8 n) := by
      have hpath := iterate_path (n := n) (x := s.withGroups 8) (f := runElement (.field .mskiplen)) fun j hj => by
        rw [runElement_mskiplen_withGroups (State.has_of_le h (by omega)), if_neg (by omega)]
      rwa [State.withGroups_zero hacc hindex] at hpath
    rw [iterate_concat, hfirst, Res.ok_bind, runElement_mskiplen_withGroups h]
    simp only [hskb, true_and, Nat.add_sub_cancel]

end

end Sys2Proof.Machine
end

section
/-! Obligation O44. MHDR on a data meta-block: the header bits, the nibbles of the length, the flag of a meta-block that is not last,
and the body to come (42_metablock.md R132 to R136). -/

namespace Sys2Proof.Machine

section
variable {s : State}

theorem runElement_mnibbles_data (h : s.has 2) (hv : s.peek 2 < 3) :
    runElement (.field .mnibbles) s = dataNibbles (4 + s.peek 2) s := by
  obtain hv' | hv' | hv' | hv' := peek_two_cases s
  · rw [hv']
    exact runElement_bare (l := [0, 0]) (i := .mnibbles0) (by simp [fieldRows]) h (by decide) hv' rfl
  · rw [hv']
    exact runElement_bare (l := [1, 0]) (i := .mnibbles1) (by simp [fieldRows]) h (by decide) hv' rfl
  · rw [hv']
    exact runElement_bare (l := [0, 1]) (i := .mnibbles2) (by simp [fieldRows]) h (by decide) hv' rfl
  · omega

theorem runElement_isUncompressed (h : s.has 1) :
    runElement (.field .isUncompressed) s = uncompressedFlag (decide (s.peek 1 = 1)) s := by
  have hlt : s.peek 1 < 2 := s.inp.field_lt _ 1
  obtain hv | hv : s.peek 1 = 0 ∨ s.peek 1 = 1 := by omega
  · rw [hv]
    exact runElement_bare (l := [0]) (i := .isuncompressed0) (by simp [fieldRows]) h (by decide) hv rfl
  · rw [hv]
    exact runElement_bare (l := [1]) (i := .isuncompressed1) (by simp [fieldRows]) h (by decide) hv rfl

/-- The header bits of a meta-block that has a length. -/
theorem runElement_mhdr_data {last : Bool} (h : s.has (if last then 2 else 1))
    (hv : if last then s.peek 2 = 1 else s.peek 1 = 0) : runElement (.field .mhdr) s = .ok { s with
      bitpos := s.bitpos + (if last then 2 else 1), isLast := last
      isLastEmpty := if last then false else s.isLastEmpty } := by
  cases last with
  | true => exact runElement_mhdr_last h hv
  | false => exact runElement_mhdr_notLast h hv

/-- What follows the length: the flag, where one is read, and the dispatch. -/
def bodyHeader (s : State) : Res State := if s.isLast then lastIsCompressed s else runElement (.field .isUncompressed) s

/-- A last meta-block has no flag and is compressed (42_metablock.md R135). -/
theorem bodyHeader_eq {last : Bool} (hlast : s.isLast = last) (h : s.has (if last then 0 else 1)) (hring : s.ringReady) :
    let u := if last then 0 else s.peek 1
    bodyHeader s = .ok { s with
      bitpos := s.bitpos + (if last then 0 else 1), isUncompressed := decide (u = 1), remaining := s.mlen,
      state := if u = 1 then .uncompressedBody else .compressedSetup } := by
  cases last with
  | true =>
    rw [show bodyHeader s = lastIsCompressed s from if_pos hlast, lastIsCompressed, dispatchBody_eq (by exact hring)]
    rfl
  | false =>
    rw [show bodyHeader s = runElement (.field .isUncompressed) s from if_neg (by simp [hlast]), runElement_isUncompressed h,
      uncompressedFlag_eq h hring]
    simp

/-- MHDR on a data meta-block is its header bits, the number of its nibbles, its nibbles and what follows. -/
theorem opMhdr_data {t u : State} (ht : runElement (.field .mhdr) s = .ok t)
    (hdata : ¬(t.isLast = true ∧ t.isLastEmpty = true)) (hu : runElement (.field .mnibbles) t = .ok u)
    (hmeta : u.isMetadata = false) : opMhdr s =
      iterate u.work.nibbles (runElement (.field .mlen)) u >>= fun v => bodyHeader v >>= fun w => .ok w.rest := by
  rw [opMhdr, ht, Res.ok_bind, if_neg hdata, hu, Res.ok_bind, if_neg (by simp [hmeta])]
  refine congrArg (iterate u.work.nibbles (runElement (.field .mlen)) u >>= ·) (funext fun v => ?_)
  unfold bodyHeader
  split <;> rfl

/-- MHDR up to the nibbles of the length, which come next. -/
theorem opMhdr_toNibbles {last : Bool} {q mn : Nat} (hq : q = s.bitpos + (if last then 2 else 1)) (hin : q + 2 ≤ s.inputBits)
    (hv : if last then s.peek 2 = 1 else s.peek 1 = 0) (hmn : s.inp.field q 2 = mn) (hdata : mn < 3) :
    opMhdr s = iterate (4 + mn) (runElement (.field .mlen)) { s with
      bitpos := q + 2, isLast := last, isLastEmpty := if last then false else s.isLastEmpty, isMetadata := false
      work := { s.work with nibbles := 4 + mn, acc := 0, index := 0 } } >>= fun v => bodyHeader v >>= fun w => .ok w.rest := by
  subst hq hmn
  have hheader := runElement_mhdr_data (State.has_of_le (s := s) (n := _ + 2) hin (Nat.le_add_right _ 2)) hv
  have hnibbles := runElement_mnibbles_data (s := { s with
      bitpos := s.bitpos + (if last then 2 else 1), isLast := last
      isLastEmpty := if last then false else s.isLastEmpty }) hin hdata
  rw [dataNibbles_eq (by exact hin)] at hnibbles
  exact opMhdr_data hheader (by cases last <;> simp) hnibbles rfl

end

/-- Settles O44: MHDR is read up to its nibbles, whose value is the length or the error, and the flag and the dispatch follow. -/
theorem headerOfADataMetaBlock : Obligations.HeaderOfADataMetaBlock := by
  intro s last hs q mn nibbles v r u hv hdata
  have hexec : exec .mhdr s = deliver s (opMhdr s) := during_of_mem (by simp [hs]) _
  let t : State := { s with
    bitpos := q + 2, isLast := last, isLastEmpty := if last then false else s.isLastEmpty, isMetadata := false
    work := { s.work with nibbles := nibbles, acc := 0, index := 0 } }
  have hlength (hin : r ≤ s.inputBits) : opMhdr s = (if 4 < nibbles ∧ v < 16 ^ (nibbles - 1) then
      .error (.raise .formatExuberantNibble "invalid final nibble" r)
      else .ok { t.withGroups 4 nibbles with mlen := v + 1 }) >>= fun x => bodyHeader x >>= fun w => .ok w.rest := by
    have hnibbles : nibbles = 3 + mn + 1 := by omega
    have hread := iterate_mlen (s := t) rfl rfl hnibbles (by rw [← hnibbles]; exact hin)
    rw [← hnibbles] at hread
    rw [opMhdr_toNibbles rfl (show q + 2 ≤ s.inputBits by omega) hv rfl hdata, show nibbles - 1 = 3 + mn by omega]
    exact congrArg (· >>= _) hread
  rw [hexec]
  refine ⟨fun hin hring hmn => ?_, fun hin hmn hlt => ?_⟩
  · rw [hlength (by omega), if_neg (by omega), Res.ok_bind]
    rw [bodyHeader_eq (s := { t.withGroups 4 nibbles with mlen := v + 1 }) (last := last) rfl (by cases last <;> exact hin) hring]
    rfl
  · rw [hlength hin, if_pos (by omega)]
    exact raises_deliver ..

end Sys2Proof.Machine
end

section
/-! Obligations O46 and O47. METADATA and UNCOMPRESSED: the padding to a byte boundary, the bytes skipped or copied, and the end of
the meta-block (42_metablock.md R137 to R140; 40_bitreader.md R98 to R100). -/

namespace Sys2Proof.Machine

section
variable {s : State}

/-! ### Padding and bytes -/

/-- The padding read as an element is the padding to the next boundary (40_bitreader.md R98). -/
theorem runElement_padding (hs : s.cursorIn) (k : PadKind) : runElement (.padding k s.padBits) s = alignToByte k s := by
  have hfits := State.padBits_fits hs
  obtain ⟨-, hlt⟩ := s.padBits_spec
  have hle : s.padBits ≤ min longestElement (s.inputBits - s.bitpos) := by
    simp only [longestElement]
    omega
  refine runElement_eq (i := .pad k s.padBits (s.inp.field s.bitpos s.padBits)) (n := s.padBits) ?_
  rw [decode, if_neg (by rw [State.window_length]; omega), State.window, Memory.take_bits _ _ hle, Memory.valueOf_bits]

theorem skipBytes_eq {m : Nat} (h : s.bitpos / 8 + m ≤ s.inp.size) : skipBytes m s = .ok (s.advance (8 * m)) := if_pos h

theorem skipBytes_short {m : Nat} (h : s.inp.size < s.bitpos / 8 + m) :
    skipBytes m s = .error (.raise .invalidArguments "read past end of input" s.bitpos) := if_neg (by omega)

theorem readBytes_short {m : Nat} (h : s.inp.size < s.bitpos / 8 + m) :
    readBytes m s = .error (.raise .invalidArguments "read past end of input" s.bitpos) := if_neg (by omega)

/-- The next byte boundary, and the padding up to it. -/
theorem State.boundary (s : State) : 8 * ((s.bitpos + 7) / 8) = s.bitpos + s.padBits ∧
    s.inp.field s.bitpos (8 * ((s.bitpos + 7) / 8) - s.bitpos) = s.peek s.padBits := by
  have h := s.padBits_spec.1
  exact ⟨h.symm, congrArg (s.inp.field s.bitpos) (by omega)⟩

/-! ### METADATA -/

theorem runElement_reserved (h : s.has 1) :
    runElement (.field .reserved) s = if s.peek 1 = 1 then reservedBitSet s else .ok (s.advance 1) := by
  have hlt : s.peek 1 < 2 := s.inp.field_lt _ 1
  obtain hv | hv : s.peek 1 = 0 ∨ s.peek 1 = 1 := by omega
  · rw [if_neg (by omega), ← skip_eq h]
    exact runElement_bare (l := [0]) (i := .metadataReserved0) (by simp [fieldRows]) h (by decide) hv rfl
  · rw [if_pos hv]
    exact runElement_bare (l := [1]) (i := .metadataReserved1) (by simp [fieldRows]) h (by decide) hv rfl

theorem runElement_mskipbytes (h : s.has 2) : runElement (.field .mskipbytes) s = setSkipBytes (s.peek 2) s := by
  obtain hv | hv | hv | hv := peek_two_cases s <;> rw [hv]
  · exact runElement_bare (l := [0, 0]) (i := .mskipbytes0) (by simp [fieldRows]) h (by decide) hv rfl
  · exact runElement_bare (l := [1, 0]) (i := .mskipbytes1) (by simp [fieldRows]) h (by decide) hv rfl
  · exact runElement_bare (l := [0, 1]) (i := .mskipbytes2) (by simp [fieldRows]) h (by decide) hv rfl
  · exact runElement_bare (l := [1, 1]) (i := .mskipbytes3) (by simp [fieldRows]) h (by decide) hv rfl

/-- The workspace does not matter to the end of a meta-block. -/
theorem State.rest_closed (s : State) : s.closed.rest = s.rest.closed := by
  unfold State.closed
  split <;> simp [*] <;> rfl

/-- Of a number that is read, only the cursor is left once the workspace is idle. -/
theorem State.rest_advance_withGroups (s : State) (p w j : Nat) (wk : Work) {n q : Nat} (hq : p + w * j + n = q) :
    (((({ s with bitpos := p, work := wk } : State).withGroups w j).advance n).rest) =
      { s with bitpos := q, work := .idle } := by
  rw [← hq]
  rfl

/-- METADATA after its header: the padding, the skip and the end. -/
def metadataBody (s : State) : Res State := do
  let n := if s.work.skb = 0 then 0 else s.work.acc + 1
  let s ← runElement (.padding .interior s.padBits) s
  let s ← skipBytes n s
  let s ← endOfMetaBlock s
  return s.rest

theorem metadataBody_raises (hs : s.cursorIn) (hv : s.peek s.padBits ≠ 0) : metadataBody s =
    .error (.raise .formatPadding1 "non-zero padding" (s.bitpos + s.padBits)) := by
  rw [metadataBody, runElement_padding hs, alignToByte_nonzero hs hv]
  rfl

theorem metadataBody_short {n : Nat} (hs : s.cursorIn) (hv : s.peek s.padBits = 0)
    (hn : n = if s.work.skb = 0 then 0 else s.work.acc + 1) (h : s.inputBits < s.bitpos + s.padBits + 8 * n) :
    metadataBody s = .error (.raise .invalidArguments "read past end of input" (s.bitpos + s.padBits)) := by
  have hpad := s.padBits_spec.1
  subst hn
  rw [metadataBody, runElement_padding hs, alignToByte_zero hs hv, Res.ok_bind,
    skipBytes_short (by simp only [State.advance_bitpos, State.advance_inp, State.inputBits] at h ⊢; omega)]
  rfl

theorem metadataBody_eq {n : Nat} (hs : s.cursorIn) (hv : s.peek s.padBits = 0)
    (hn : n = if s.work.skb = 0 then 0 else s.work.acc + 1) (h : s.bitpos + s.padBits + 8 * n ≤ s.inputBits)
    (hclean : (s.advance (s.padBits + 8 * n)).endsCleanly) :
    metadataBody s = .ok (s.advance (s.padBits + 8 * n)).rest.closed := by
  have hpad := s.padBits_spec.1
  subst hn
  rw [metadataBody, runElement_padding hs, alignToByte_zero hs hv, Res.ok_bind,
    skipBytes_eq (by simp only [State.advance_bitpos, State.advance_inp, State.inputBits] at h ⊢; omega), Res.ok_bind,
    State.advance_advance, endOfMetaBlock_eq hclean, ← State.rest_closed]
  rfl

/-- METADATA with its reserved bit clear is its size, the bytes of its length and its body. -/
theorem opMetadata_eq (h : s.has 3) (hv : s.peek 1 = 0) : opMetadata s =
    let skb := s.inp.field (s.bitpos + 1) 2
    iterate skb (runElement (.field .mskiplen)) { s with
      bitpos := s.bitpos + 3, work := { s.work with skb := skb, acc := 0, index := 0 } } >>= metadataBody := by
  have h2 : (s.advance 1).has 2 := State.advance_has h
  rw [opMetadata, runElement_reserved (State.has_of_le h (by omega)), if_neg (by omega), Res.ok_bind, runElement_mskipbytes h2,
    setSkipBytes_eq h2]
  rfl

end

/-- Settles O46: the header is the reserved bit, the size and the bytes of the length; the body's cases are separate lemmas. -/
theorem metadataSkipsItsBytes : Obligations.MetadataSkipsItsBytes := by
  intro s hs p skb v e a len t
  have hexec : exec .metadata s = deliver s (opMetadata s) := during_of_mem (by simp [hs]) _
  let u : State := { s with bitpos := p + 3, work := { s.work with skb := skb, acc := 0, index := 0 } }
  let w : State := u.withGroups 8 skb
  have hheader (hin : e ≤ s.inputBits) (hv : s.peek 1 = 0) : opMetadata s =
      (if 1 < skb ∧ v < 256 ^ (skb - 1) then
        .error (.raise .formatExuberantMetaNibble "invalid meta-block size nibble" e)
      else .ok w) >>= metadataBody := by
    have hread := iterate_mskiplen (s := u) rfl rfl hin
    rw [opMetadata_eq (show p + 3 ≤ s.inputBits by omega) hv]
    exact congrArg (· >>= metadataBody) hread
  have hbody (hin : e ≤ s.inputBits) (hv : s.peek 1 = 0) (hlen : skb ≤ 1 ∨ 256 ^ (skb - 1) ≤ v) :
      opMetadata s = metadataBody w := by
    rw [hheader hin hv, if_neg (by omega), Res.ok_bind]
  have hlength : len = if w.work.skb = 0 then 0 else w.work.acc + 1 := rfl
  obtain ⟨ha, hpad⟩ : a = e + w.padBits ∧ s.inp.field e (a - e) = w.peek w.padBits := w.boundary
  rw [hexec, hpad]
  refine ⟨fun h hv => ?_, fun hin hv hskb hlt => ?_, fun hin hv hlen hne => ?_,
    fun hin hv hlen hzero => ⟨fun hshort => ?_, fun hfits hclean => ?_⟩⟩
  · rw [opMetadata, runElement_reserved h, if_pos hv, reservedBitSet_eq h]
    exact raises_deliver ..
  · rw [hheader hin hv, if_pos ⟨hskb, hlt⟩]
    exact raises_deliver ..
  · rw [hbody hin hv hlen, metadataBody_raises hin hne, ha]
    exact raises_deliver ..
  · rw [hbody hin hv hlen, metadataBody_short hin hzero hlength (ha ▸ hshort), ha]
    exact raises_deliver ..
  · have hend : (w.advance (w.padBits + 8 * len)).rest = t :=
      State.rest_advance_withGroups s (p + 3) 8 skb _ (show e + (w.padBits + 8 * len) = a + 8 * len by omega)
    have hclean' : (w.advance (w.padBits + 8 * len)).rest.endsCleanly := hend ▸ hclean
    rw [hbody hin hv hlen, metadataBody_eq hin hzero hlength (ha ▸ hfits) hclean', hend, deliver_ok]

/-- Settles O47: the padding, the bytes of the input that stand after it, and the end of the meta-block. -/
theorem uncompressedCopiesItsBytes : Obligations.UncompressedCopiesItsBytes := by
  intro s hs hwf hin a pad t
  have hexec : exec .uncompressed s = deliver s (opUncompressed s) := during_of_mem (by simp [hs]) _
  obtain ⟨ha, hpad⟩ : a = s.bitpos + s.padBits ∧ pad = s.peek s.padBits := s.boundary
  have hadvance : s.advance s.padBits = { s with bitpos := a } := by
    rw [ha]
    rfl
  rw [hexec, hpad, opUncompressed, runElement_padding hin]
  refine ⟨fun hne => ?_, fun hzero hshort => ?_, fun hzero hfits hclean => ?_⟩
  · rw [alignToByte_nonzero hin hne, ha]
    exact raises_deliver ..
  · rw [alignToByte_zero hin hzero, hadvance, Res.ok_bind, readBytes_short (by simp only [State.inputBits] at hshort ⊢; omega)]
    exact raises_deliver ..
  · rw [alignToByte_zero hin hzero, hadvance, Res.ok_bind,
      readBytes_eq (by exact hwf) (by simp only [State.inputBits] at hfits ⊢; omega), Res.ok_bind, State.appendAll_eq_foldl]
    have hout : t = { s with
        bitpos := a + 8 * s.mlen, out := ((s.inp.bytes.drop (a / 8)).take s.mlen).foldl Memory.push s.out, remaining := 0 } :=
      congrArg (fun m => ({ s with bitpos := a + 8 * s.mlen, out := m, remaining := 0 } : State)) (State.out_appendAll ..)
    rw [hout] at hclean ⊢
    exact congrArg (deliver s) (endOfMetaBlock_eq hclean)

end Sys2Proof.Machine
end

section
/-! Obligations O17 and O36. The rows of the command loop that write the distance ring and the output: COPY pushes its distance, a
literal row appends its byte (43_command_loop.md R172, R173, R179). -/

namespace Sys2Proof.Machine

/-- Settles O17: no other instruction has the ring in its list, and a copy that completes has pushed its distance. -/
theorem onlyCopyWritesTheDistanceRing : Obligations.OnlyCopyWritesTheDistanceRing := by
  intro i s t h
  refine ⟨fun hi => exec_same h (r := .distRing) hi nofun, fun hi ht => ?_⟩
  subst hi
  obtain ⟨hcopy, -⟩ | ⟨k, m, p, -, rfl⟩ := exec_frame h
  · exact opCopy_ring s t hcopy
  · exact absurd rfl ht

/-- A literal that the code in force spells is appended and counted off, then the next phase is chosen. -/
theorem literal_eq {s : State} {b : Byte} {l : Nat} (h : s.spells s.literalCode b.toNat l) :
    literal b s = if (s.withLiteral b l).insertLen = 0 then postInsert (s.withLiteral b l) else .ok (s.withLiteral b l) := by
  rw [literal, consume_spells h]
  rfl

/-- A literal delivers the literal phase's next state, by whether it is the last of its command (43_command_loop.md R173). -/
theorem deliver_literal {s : State} {b : Byte} {l : Nat} (s₀ : State) (h : s.spells s.literalCode b.toNat l) :
    ((s.withLiteral b l).insertLen ≠ 0 → deliver s₀ (literal b s) = .next (s.withLiteral b l)) ∧
    ((s.withLiteral b l).insertLen = 0 → (s.withLiteral b l).canResume →
      deliver s₀ (literal b s) = .next ((s.withLiteral b l).resume .distance)) := by
  rw [literal_eq h]
  refine ⟨fun h0 => ?_, fun h0 hresume => ?_⟩
  · rw [if_neg h0, deliver_ok]
  · rw [if_pos h0, postInsert_eq hresume, deliver_ok]

/-- Settles O36: a literal row is the effect of its byte under the guard of the insert phase. -/
theorem literalRowAppendsItsByte : Obligations.LiteralRowAppendsItsByte := by
  intro s b l hs hp h t
  have hrow : exec (.litB b) s = deliver s (literal b s) := duringPhase_of hs hp _
  rw [hrow]
  exact deliver_literal s h

end Sys2Proof.Machine
end

section
/-! Obligation O54. A block switch before a symbol: not at all in a category of one block type, only where the count has run out in
the others (43_command_loop.md R162 to R164). -/

namespace Sys2Proof.Machine

variable {c : Category} {s : State}

/-- A category of one block type counts nothing off. -/
theorem countSymbol_one (h : (s.tracker c).nbltypes < 2) : countSymbol c s = .ok s := if_neg (Nat.not_le.mpr h)

/-- A count that has not run out goes down by one. -/
theorem countSymbol_running (h : 2 ≤ (s.tracker c).nbltypes) (hlen : (s.tracker c).blen ≠ 0) :
    countSymbol c s = .ok (s.setTracker c { s.tracker c with blen := (s.tracker c).blen - 1 }) := by
  rw [countSymbol, if_pos h, if_neg hlen]
  rfl

/-- A count that has run out is renewed by a block switch, then goes down by one. -/
theorem countSymbol_switching {u : State} (h : 2 ≤ (s.tracker c).nbltypes) (hlen : (s.tracker c).blen = 0)
    (hu : blockSwitch c s = .ok u) :
    countSymbol c s = .ok (u.setTracker c { u.tracker c with blen := (u.tracker c).blen - 1 }) := by
  rw [countSymbol, if_pos h, if_pos hlen, hu]
  rfl

/-- A symbol that decodes is spelled where its bits are left. -/
theorem State.spells_of_has {T : PrefixCode} {v n : Nat} (h : decodeSymbol T s.window = .ok (v, n)) (hn : s.has n)
    {code : Option PrefixCode} (hcode : code = some T) : s.spells code v n :=
  have ⟨cw, hcw⟩ := codeword_of_decodeSymbol h
  ⟨hn, T, cw, hcode, hcw⟩

/-- A block switch decodes a type, then a count with its extra bits (43_command_loop.md R162). -/
theorem blockSwitch_eq {t l j m : Nat} (ht : decodeSymbol (s.tracker c).htreeBtype s.window = .ok (t, l)) (ht' : t ≤ 257)
    (hj : decodeSymbol (s.tracker c).htreeBlen (s.advance l).window = .ok (j, m)) (hj' : j < 26)
    (hbits : s.has (l + m + blockCountExtra.getD j 0)) :
    blockSwitch c s = .ok ((s.advance (l + m + blockCountExtra.getD j 0)).setTracker c { s.tracker c with
      prevType := (s.tracker c).btype
      btype := (s.tracker c).resolve t
      blen := blockCountBase.getD j 0 + s.inp.field (s.bitpos + l + m) (blockCountExtra.getD j 0) }) := by
  let k : Tracker := { s.tracker c with prevType := (s.tracker c).btype, btype := (s.tracker c).resolve t }
  let u : State := (s.advance l).setTracker c k
  have hrest : (s.advance l).has (m + blockCountExtra.getD j 0) := State.advance_has (by rwa [← Nat.add_assoc])
  have htype : runSymbol (.blockType c) (some (s.tracker c).htreeBtype) s = .ok u := by
    rw [runSymbol_decoded ht (symbolRow_isSome (by simp only [alphabetBound]; omega)), symbolEffect,
      switchType_eq (State.spells_of_has ht (State.has_of_le hbits (by omega)) rfl)]
  have hwindow : u.window = (s.advance l).window := State.window_eq (by simp [u]) (by simp [u])
  have hcode : (u.tracker c).htreeBlen = (s.tracker c).htreeBlen := by simp [u, k]
  have hrest' : u.has (m + blockCountExtra.getD j 0) := by simpa [u, State.has, State.inputBits] using hrest
  have hcount : decodeSymbol (u.tracker c).htreeBlen u.window = .ok (j, m) := by rw [hcode, hwindow, hj]
  rw [blockSwitch, htype, Res.ok_bind, readBlockCount,
    runSymbol_decoded hcount (symbolRow_isSome (a := .blockCount c) hj'), symbolEffect,
    renewCount_eq (State.spells_of_has hcount (State.has_of_le hrest' (by omega)) rfl) hrest']
  simp [u, k, State.advance_setTracker, Nat.add_assoc]

/-- Settles O54: by the number of block types, then by the count. -/
theorem blockSwitchIsLazy : Obligations.BlockSwitchIsLazy := by
  intro c s k
  refine ⟨countSymbol_one, countSymbol_running, fun h hlen t l j m ht ht' hj hj' => ?_⟩
  intro extra hbits
  rw [countSymbol_switching h hlen (blockSwitch_eq ht ht' hj hj' hbits)]
  simp only [State.tracker_setTracker, State.setTracker_setTracker]
  rfl

end Sys2Proof.Machine
end

section
/-! Obligations O49 and O50. CMD and LIT: the block count, then a symbol of the code in force and its effect
(43_command_loop.md R164 to R173). -/

namespace Sys2Proof.Machine

/-- A symbol that the input cuts off is an error where its missing bit stands (40_bitreader.md R97). -/
theorem runSymbol_short {a : Alphabet} {T : PrefixCode} {s : State} {n : Nat}
    (h : decodeSymbol T s.window = .error (.endOfInput n)) :
    runSymbol a (some T) s = .error (.raise .invalidArguments "read past end of input" (s.bitpos + n)) :=
  runElement_short (by simp [decode, h])

/-- CMD is the effect of the symbol decoded, after the count. -/
theorem opCmd_eq {s u : State} (hu : countSymbol .I s = .ok u) {T : PrefixCode} (hT : u.commandCode = some T) :
    opCmd s = runSymbol .command (some T) u := by
  rw [opCmd, hu, Res.ok_bind, hT]

/-- LIT is the effect of the symbol decoded, after the count. -/
theorem opLit_eq {s u : State} (hu : countSymbol .L s = .ok u) {T : PrefixCode} (hT : u.literalCode = some T) :
    opLit s = runSymbol .literal (some T) u := by
  rw [opLit, hu, Res.ok_bind, hT]

/-- The registers of a command do not reach back before its symbol. -/
theorem State.le_bitpos_withCommand (s : State) (sym l : Nat) : s.bitpos + l ≤ (s.withCommand sym l).bitpos := by
  simp only [State.withCommand]
  omega

/-- Settles O49: a command symbol's effect in the state after the count, by what the insert length is. -/
theorem commandOperation : Obligations.CommandOperation := by
  intro s u T hs hp hu hT
  have hexec : exec .cmd s = deliver s (opCmd s) := duringPhase_of hs hp _
  have hframe := (countSymbol_runs s .I).frame u hu
  have hremaining : u.remaining = s.remaining := hframe.same .remaining (by simp)
  rw [hexec, opCmd_eq hu hT]
  refine ⟨fun cmd l hcmd hlt => ?_, fun n hn => ?_⟩
  · intro t hin
    have hin' : t.bitpos ≤ u.inputBits := hframe.inputBits.symm ▸ hin
    have hspells := State.spells_of_has hcmd ((u.le_bitpos_withCommand cmd l).trans hin') hT
    rw [runSymbol_decoded hcmd (symbolRow_isSome (a := .command) hlt), symbolEffect,
      command_eq (by omega) hspells hin', hremaining]
    refine ⟨fun h0 hle => ?_, fun h0 hresume => ?_, fun hover => ?_⟩
    · rw [if_neg (Nat.not_lt.mpr hle), if_pos (Nat.pos_of_ne_zero h0), deliver_ok]
    · rw [if_neg (h0 ▸ Nat.not_lt_zero _), if_neg (h0 ▸ Nat.lt_irrefl 0), postInsert_eq hresume, deliver_ok]
    · rw [if_pos hover]
      exact raises_deliver ..
  · rw [runSymbol_short hn]
    exact raises_deliver ..

/-- The bytes of the context are those of the output, whatever the other registers hold (10_state.md R37). -/
theorem State.lastByte_congr {s t : State} (h : t.out = s.out) (d : Nat) : t.lastByte d = s.lastByte d := by
  rw [State.lastByte, State.lastByte, State.pos, State.pos, h]

/-- Settles O50: a literal's effect in the state after the count, which has the output, and so the context, of the state before. -/
theorem literalOperation : Obligations.LiteralOperation := by
  intro s u mode tree T hs hp hu hmode htree hT hcursor
  have hexec : exec .lit s = deliver s (opLit s) := duringPhase_of hs hp _
  have hout : u.out = s.out := ((countSymbol_runs s .L).frame u hu).same .out (by simp)
  have hcode : u.literalCode = some T := by simp [State.literalCode, State.lastByte_congr hout, hmode, htree, hT]
  have hcursor' := (countSymbol_runs s .L).cursor hcursor u hu
  rw [hexec, opLit_eq hu hcode]
  refine ⟨fun b l hb hlt => ?_, fun n hn => ?_⟩
  · have hbyte : (BitVec.ofNat 8 b).toNat = b := by simp [Nat.mod_eq_of_lt hlt]
    rw [runSymbol_decoded hb (symbolRow_isSome (a := .literal) hlt), symbolEffect]
    exact deliver_literal s (hbyte.symm ▸ State.spells_of_decodeSymbol hcursor' hcode hb)
  · rw [runSymbol_short hn]
    exact raises_deliver ..

end Sys2Proof.Machine
end

section
/-! Obligation O52. A backward copy repeats the output, byte by byte, so that a copy longer than its distance repeats itself
(43_command_loop.md R179 to R184; 70_reset_and_hazards.md R235). -/

namespace Sys2Proof.Machine

/-- A byte that the output read gives is the byte that far back. -/
theorem State.outRead_eq_some {s : State} {d : Nat} {b : Byte} (h : s.outRead d = some b) :
    1 ≤ d ∧ d ≤ s.pos ∧ s.out.read (s.pos - d) = some b := by
  unfold State.outRead at h
  split at h
  · obtain ⟨h1, hd⟩ := ‹1 ≤ d ∧ d ≤ s.maxDist›
    exact ⟨h1, hd.trans (Nat.min_le_left ..), h⟩
  · cases h

/-- Every byte that a backward copy appends is the byte the distance back, itself perhaps appended by the copy. -/
theorem copyBackward_repeats {d n : Nat} {s t : State} (hw : s.out.wf = true) (h : copyBackward d n s = .ok t) {a : Nat}
    (ha : s.pos ≤ a) (ha' : a < s.pos + n) : t.out.read a = t.out.read (a - d) := by
  induction n generalizing s with
  | zero => omega
  | succ n ih =>
    unfold copyBackward at h
    split at h
    next b hb =>
      obtain ⟨h1, hd, hread⟩ := State.outRead_eq_some hb
      obtain hlater | rfl := ha.lt_or_eq
      · exact ih (Memory.wf_push hw b) h (by simpa using hlater) (by rw [State.append_pos]; omega)
      · obtain ⟨bs, -, rfl⟩ := copyBackward_ok h
        have hnew : ((s.append b).appendAll bs).out.read s.pos = some b :=
          (State.read_appendAll_of_lt _ bs (by simp)).trans (Memory.read_push_self hw b)
        have hold : ((s.append b).appendAll bs).out.read (s.pos - d) = s.out.read (s.pos - d) :=
          State.read_appendAll_of_lt s (b :: bs) (by omega)
        rw [hnew, hold, hread]
    next => cases h

/-- The state in which COPY copies: its distance is in the ring, unless the distance code is 0 (43_command_loop.md R179). -/
def State.withRing (s : State) : State :=
  { s with distRing := if s.dcode = 0 then s.distRing else s.distRing.push s.distance.toNat }

/-- COPY in the state with its distance in the ring. -/
theorem opCopy_eq (s : State) : opCopy s =
    if s.remaining < s.copyLen then raise .formatBlockLength2 "copy past meta-block end" s
    else copyBackward s.distance.toNat s.copyLen s.withRing >>= fun u =>
      endOfCommand { u with remaining := u.remaining - u.copyLen } := by
  unfold opCopy State.withRing
  split <;> rfl

/-- Settles O52: within the bound the copy completes; it only appends, and each byte it appends repeats one. -/
theorem copyRepeatsTheOutput : Obligations.CopyRepeatsTheOutput := by
  intro s d hs hp hw hdist h1 hd
  have hbeyond : s.beyond = false := by simpa [State.beyond, hdist, State.maxDist] using hd
  have hexec : exec .copy s = deliver s (opCopy s) := by
    rw [← duringPhase_of hs hp (opCopy s)]
    exact if_neg (by simp [hbeyond])
  have hnat : s.distance.toNat = d := by simp [hdist]
  rw [hexec, opCopy_eq, hnat]
  refine ⟨fun hlt => ?_, fun hle => ?_⟩
  · rw [if_pos hlt]
    exact raises_deliver ..
  obtain ⟨u, hu⟩ := copyBackward_completes (n := s.copyLen) (s := s.withRing) hw h1 hd
  have hrepeats (a : Nat) (ha : s.pos ≤ a) (ha' : a < s.pos + s.copyLen) : u.out.read a = u.out.read (a - d) :=
    copyBackward_repeats (s := s.withRing) hw hu ha ha'
  obtain ⟨bs, hlength, rfl⟩ := copyBackward_ok hu
  refine ⟨(s.withRing.appendAll bs).out, Memory.wf_appendAll (s := s.withRing) hw bs, ?_,
    fun a ha => State.read_appendAll_of_lt s.withRing bs ha, hrepeats, fun hresume => ?_⟩
  · rw [← hlength]
    exact State.appendAll_pos s.withRing bs
  · rw [if_neg (Nat.not_lt.mpr hle), hu, Res.ok_bind, State.appendAll_eq]
    rw [← hnat] at hresume ⊢
    exact congrArg (deliver s) (endOfCommand_eq hresume)

end Sys2Proof.Machine
end

section
/-! Obligation O60. The transforms that are defined, and how many bytes of a word each can omit (44_dictionary_transforms.md R194,
R197 to R206; 43_command_loop.md R189). -/

namespace Sys2Proof.Machine

/-! ### Folding and shifting keep the length -/

theorem toUpper_length (w : List Byte) (i : Nat) : (toUpper w i).1.length = w.length := by
  unfold toUpper
  split
  · rfl
  · split_ifs <;> simp

theorem shiftAt_length (scalar : Nat) (w : List Byte) (i : Nat) : (shiftAt scalar w i).1.length = w.length := by
  unfold shiftAt
  dsimp only
  split_ifs <;> simp

/-- A walk keeps the length where every character's rewriting does. -/
theorem walkWord_length {f : List Byte → Nat → List Byte × Nat} (hf : ∀ w i, (f w i).1.length = w.length) (n : Nat)
    (w : List Byte) (i : Nat) : (walkWord f n w i).length = w.length := by
  induction n generalizing w i with
  | zero => rfl
  | succ n ih =>
    unfold walkWord
    split
    · rw [ih, hf]
    · rfl

theorem shiftFirst_length (w : List Byte) (param : BitVec 16) : (shiftFirst w param).length = w.length := by
  unfold shiftFirst
  split
  · exact shiftAt_length ..
  · rfl

/-! ### What an op omits -/

/-- How many bytes an op omits from a word that has as many (44_dictionary_transforms.md R198, R199). -/
def TransformOp.omits : TransformOp → Nat
  | .omitLast k | .omitFirst k => k
  | .identity | .uppercaseFirst | .uppercaseAll | .shiftFirst _ | .shiftAll _ => 0

theorem applyOp_length (op : TransformOp) (w : List Byte) : (applyOp op w).length = w.length - op.omits := by
  cases op with
  | identity => rfl
  | omitLast k => simp [applyOp, TransformOp.omits]
  | omitFirst k => exact List.length_drop
  | uppercaseFirst => exact toUpper_length w 0
  | uppercaseAll => exact walkWord_length toUpper_length ..
  | shiftFirst param => exact shiftFirst_length w param
  | shiftAll param => exact walkWord_length (shiftAt_length _) ..

/-- A word that becomes empty is no longer than what the op omits. -/
theorem Transform.length_le_omits {t : Transform} {w : List Byte} (h : t.apply w = []) : w.length ≤ t.op.omits := by
  have hop : applyOp t.op w = [] := by
    obtain ⟨hleft, -⟩ := List.append_eq_nil_iff.mp h
    exact (List.append_eq_nil_iff.mp hleft).2
  have hlength := applyOp_length t.op w
  rw [hop, List.length_nil] at hlength
  omega

/-! ### The table -/

theorem transforms_length : transforms.length = 121 := rfl

/-- No transform omits more than nine bytes, and none of an id below 34 more than three (44_dictionary_transforms.md R206). -/
theorem omits_of_transforms : ∀ tid < 121, ∀ t ∈ transforms[tid]?, t.op.omits ≤ 9 ∧ (tid < 34 → t.op.omits ≤ 3) := by decide

/-- Settles O60: the ids are the table's; an empty word is omitted whole, by a transform that omits at least four bytes. -/
theorem emptyWordsNeedHighTransformIds : Obligations.EmptyWordsNeedHighTransformIds := by
  refine ⟨fun w tid => by simp [applyTransform, transforms_length], fun w tid hw h => ?_⟩
  obtain ⟨t, ht, happly⟩ := Option.map_eq_some_iff.mp h
  have htid : tid < 121 := transforms_length ▸ (List.getElem?_eq_some_iff.mp ht).1
  obtain ⟨h9, h3⟩ := omits_of_transforms tid htid t ht
  have hlength := Transform.length_le_omits happly
  omega

end Sys2Proof.Machine
end

section
/-! Obligations O41 and O42. The rows of the static dictionary, each under the guard of the copy phase: ops and transforms rewrite
the word in the workspace, and a bucket reads its word from the dictionary (44_dictionary_transforms.md R192 to R199, R206). -/

namespace Sys2Proof.Machine

/-- A word of a bucket lies in the dictionary, whatever the word id (44_dictionary_transforms.md R192, R193). -/
theorem State.dictRead_word {s : State} (hs : s.dictReady) {len : Nat} (h4 : 4 ≤ len) (h24 : len ≤ 24) (id : Nat) :
    ∃ bytes, s.dictRead (dictOffset len + id % 2 ^ dictBits len * len) len = some bytes ∧ bytes.length = len := by
  obtain ⟨bytes, h⟩ := State.dictRead_some hs (word_le_dictSize h4 h24 id)
  exact ⟨bytes, h, State.dictRead_length h⟩

theorem selectWord_eq {s : State} {len : Nat} {bytes : List Byte}
    (h : s.dictRead (dictOffset len + s.work.wordId % 2 ^ dictBits len * len) len = some bytes) :
    selectWord len s = .ok { s with work := { s.work with tid := s.work.wordId / 2 ^ dictBits len, word := bytes } } := by
  simp [selectWord, h, Nat.shiftRight_eq_div_pow]

theorem wordTransform_eq {s : State} {tid : Nat} {bytes : List Byte} (h : applyTransform s.work.word tid = some bytes) :
    wordTransform tid s = .ok { s with work := { s.work with word := bytes } } := by
  simp [wordTransform, h]

/-- A row of the copy phase whose effect is a transform op. -/
theorem exec_wordOp {i : Instr} {op : TransformOp} {s : State} (hs : s.state = .commandLoop) (hp : s.cmdPhase = .copy)
    (hi : guardOf i = .phase .copy) (h : elem i s = wordOp op s) :
    exec i s = .next { s with work := { s.work with word := applyOp op s.work.word } } := by
  rw [exec_of_admits hi (by simp [Guard.admits, hs, hp]), h]
  rfl

/-- Rows of the copy phase whose effect is a transform op with a number, each with its number. -/
theorem exec_wordOpRows {rows : List (Instr × Nat)} {op : Nat → TransformOp} {s : State} (hs : s.state = .commandLoop)
    (hp : s.cmdPhase = .copy)
    (h : rows.map (fun p => (guardOf p.1, elem p.1 s)) = rows.map fun p => (.phase .copy, wordOp (op p.2) s))
    {i : Instr} {k : Nat} (hi : (i, k) ∈ rows) :
    exec i s = .next { s with work := { s.work with word := applyOp (op k) s.work.word } } :=
  let ⟨hguard, helem⟩ := Prod.mk.inj (List.map_inj_left.mp h (i, k) hi)
  exec_wordOp hs hp hguard helem

/-- Settles O41: each op and each transform is its effect under the guard of the copy phase. -/
theorem transformRowsRewriteTheWord : Obligations.TransformRowsRewriteTheWord := by
  intro s hs hp w gives
  refine ⟨exec_wordOp (op := .identity) hs hp rfl rfl, fun i k hi => exec_wordOpRows (op := .omitLast) hs hp rfl hi,
    fun i k hi => exec_wordOpRows (op := .omitFirst) hs hp rfl hi, exec_wordOp (op := .uppercaseFirst) hs hp rfl rfl,
    exec_wordOp (op := .uppercaseAll) hs hp rfl rfl, fun param => ⟨exec_wordOp (op := .shiftFirst param) hs hp rfl rfl,
    exec_wordOp (op := .shiftAll param) hs hp rfl rfl⟩, fun tid i r hi hr => ?_, fun tid => ?_⟩
  · have htid : tid < 121 := (List.getElem?_eq_some_iff.mp hi).1
    have happly : applyTransform s.work.word tid = some (r.apply w) := by simp [applyTransform, hr, w]
    rw [exec_entryRow (t := .transform) (v := tid) (by simp [entryRow, htid, hi]) (by simp [tableGuard, Guard.admits, hs, hp]),
      of_rows (rows := transformRows) (f := fun v => wordTransform v s) rfl hi, wordTransform_eq happly]
    rfl
  · rw [exec_of_admits (i := .transformReserved tid) (g := .phase .copy) rfl (by simp [Guard.admits, hs, hp])]
    exact raises_deliver ..

/-- Each bucket begins where the one before it ends (44_dictionary_transforms.md R193). -/
theorem dictOffset_succ : ∀ len < 24, 4 ≤ len → dictOffset (len + 1) = dictOffset len + len * 2 ^ dictBits len := by decide

/-- Settles O42: each row is the bucket of its length, whose words lie in the dictionary; the layout is computed. -/
theorem dictionaryBucketRows : Obligations.DictionaryBucketRows := by
  refine ⟨fun s L i hs hp hready h4 hi => ?_, fun L h4 h23 => dictOffset_succ L (Nat.lt_succ_of_le h23) h4, by decide,
    by decide⟩
  have h24 : L ≤ 24 := Nat.le_of_lt_succ ((Nat.sub_lt_iff_lt_add h4).mp (List.getElem?_eq_some_iff.mp hi).1)
  have hselect : elem i s = selectWord L s := by
    rw [of_rows (rows := dictBucketRows) (f := fun k => selectWord (k + 4) s) rfl hi]
    exact congrArg (selectWord · s) (Nat.sub_add_cancel h4)
  obtain ⟨bytes, hread, hlength⟩ := State.dictRead_word hready h4 h24 s.work.wordId
  refine ⟨bytes, hread, hlength, ?_⟩
  rw [exec_entryRow (t := .dictBucket) (v := L) (by simp [entryRow, Nat.not_lt.mpr h4, hi])
    (by simp [tableGuard, Guard.admits, hs, hp]), hselect, selectWord_eq hread, deliver_ok]

end Sys2Proof.Machine
end

section
/-! Obligation O53. DICT: its checks in order, then the word that the id selects, transformed and appended
(44_dictionary_transforms.md R190 to R195, R208, R209). -/

namespace Sys2Proof.Machine

/-- The state in which DICT looks up its word (44_dictionary_transforms.md R190, R191). -/
def State.withWordId (s : State) : State :=
  { s with work := { s.work with wordId := (s.distance - s.maxDist - 1).toNat } }

/-- The end of DICT: the transformed word is appended where it fits, and the command ends (44_dictionary_transforms.md R190,
R208, R209). -/
def appendWord (s : State) : Res State :=
  if s.remaining < s.work.word.length then raise .formatBlockLength2 "word past meta-block end" s
  else do
    let t ← endOfCommand { s.appendAll s.work.word with remaining := s.remaining - s.work.word.length }
    return t.rest

/-- Behind the first two checks, DICT selects its word, transforms it and appends it. -/
theorem opDict_eq {s : State} (havailable : s.dictAvailable = true) (h4 : 4 ≤ s.copyLen) (h24 : s.copyLen ≤ 24) : opDict s =
    selectWord s.copyLen s.withWordId >>= fun t => runElement (.entry .transform t.work.tid) t >>= appendWord := by
  rw [← runElement_bucket h4 h24, opDict, if_neg (by simp [havailable]),
    if_neg (not_or.mpr ⟨Nat.not_lt.mpr h4, Nat.not_lt.mpr h24⟩)]
  rfl

theorem State.dictRead_withWordId (s : State) (off n : Nat) : s.withWordId.dictRead off n = s.dictRead off n := by
  induction n generalizing off with
  | zero => rfl
  | succ n ih =>
    rw [State.dictRead, State.dictRead, ih]
    rfl

theorem State.rest_resume (s : State) (p : CmdPhase) : (s.resume p).rest = s.rest.resume p := by
  unfold State.resume
  split
  · rw [if_pos (by assumption), State.rest_closed]
  · rw [if_neg (by assumption)]
    rfl

theorem appendWord_raises {s : State} (h : s.remaining < s.work.word.length) :
    appendWord s = raise .formatBlockLength2 "word past meta-block end" s := if_pos h

/-- The word is appended, and the workspace that held it is idle again. -/
theorem appendWord_eq {s : State} {w : Work} (hidle : s.work = .idle) (h : w.word.length ≤ s.remaining) :
    let t := { s with out := (s.appendAll w.word).out, remaining := s.remaining - w.word.length }
    t.canResume → appendWord { s with work := w } = .ok (t.resume .cmdBegin) := by
  intro t ht
  let u : State := { t with work := w }
  have hcommand : endOfCommand { ({ s with work := w } : State).appendAll w.word with
      remaining := s.remaining - w.word.length } = .ok (u.resume .cmdBegin) := by
    rw [State.appendAll_eq_foldl, ← s.out_appendAll w.word]
    exact endOfCommand_eq (s := u) ht
  have hrest : u.rest = t := by
    rw [State.rest, ← hidle]
  rw [appendWord, if_neg (Nat.not_lt.mpr h), hcommand, Res.ok_bind, Res.pure_eq, State.rest_resume, hrest]

/-- The word that DICT selects lies in the dictionary; what is left is its transform and the end. -/
theorem opDict_of_dictReady {s : State} (hready : s.dictReady) (h4 : 4 ≤ s.copyLen) (h24 : s.copyLen ≤ 24) :
    let id := (s.distance - s.maxDist - 1).toNat
    ∃ w : Work, s.dictRead (dictOffset s.copyLen + id % 2 ^ dictBits s.copyLen * s.copyLen) s.copyLen = some w.word ∧
      opDict s = runElement (.entry .transform (id / 2 ^ dictBits s.copyLen)) { s with work := w } >>= appendWord := by
  intro id
  obtain ⟨word, hread, -⟩ := State.dictRead_word hready h4 h24 id
  refine ⟨{ s.withWordId.work with tid := id / 2 ^ dictBits s.copyLen, word := word }, hread, ?_⟩
  rw [opDict_eq hready.1 h4 h24, selectWord_eq (s := s.withWordId) ((s.dictRead_withWordId _ _).trans hread)]
  rfl

/-- Settles O53: each check in its order; behind them the word lies in the dictionary, and it is transformed and appended. -/
theorem dictionaryOperation : Obligations.DictionaryOperation := by
  intro s hs hp hbeyond hidle L wordId tid
  have hexec : exec .dict s = deliver s (opDict s) :=
    (if_pos (by simpa [State.beyond] using hbeyond)).trans (duringPhase_of hs hp (opDict s))
  have hraises {k : ErrorKind} {m : String} {p : Nat} (h : opDict s = .error (.raise k m p)) : Raises (exec .dict s) s k p := by
    rw [hexec, h]
    exact raises_deliver ..
  refine ⟨fun hnone => hraises (if_pos hnone),
    fun hready hlength => hraises ((if_neg (by simp [hready.1])).trans (if_pos hlength)),
    fun hready h4 h24 htid => ?_, fun hready h4 h24 htid => ?_⟩
  · obtain ⟨w, -, hdict⟩ := opDict_of_dictReady hready h4 h24
    rw [runElement_entry (tb := .transform) (if_neg (Nat.not_lt.mpr htid))] at hdict
    exact hraises hdict
  · obtain ⟨w, hread, hdict⟩ := opDict_of_dictReady hready h4 h24
    obtain ⟨bytes, happly⟩ : ∃ bytes, applyTransform w.word tid = some bytes :=
      Option.isSome_iff_exists.mp (by simp [applyTransform, transforms_length, htid])
    rw [runElement_transform htid, wordTransform_eq (s := { s with work := w }) happly, Res.ok_bind] at hdict
    refine ⟨w.word, bytes, hread, happly, fun hlt => hraises (hdict.trans (appendWord_raises hlt)), fun hle => fun ht => ?_⟩
    rw [hexec, hdict, appendWord_eq (w := { w with word := bytes }) hidle hle ht, deliver_ok]

end Sys2Proof.Machine
end

section
/-! SUPPORT. Walks over a word: a character's rewriting looks at nothing before the character, so a walk can be taken apart behind
its first character (44_dictionary_transforms.md R201, R205). -/

namespace Sys2Proof.Machine

theorem modify_append_length_add (c w : List Byte) (i : Nat) (f : Byte → Byte) :
    (c ++ w).modify (c.length + i) f = c ++ w.modify i f := by
  induction c with
  | nil => simp
  | cons b c ih => simp [Nat.succ_add, ih]

theorem set_append_length_add (c w : List Byte) (i : Nat) (b : Byte) :
    (c ++ w).set (c.length + i) b = c ++ w.set i b := by simp

theorem getD_append_length_add (c w : List Byte) (i : Nat) (b : Byte) :
    (c ++ w).getD (c.length + i) b = w.getD i b := by
  rw [List.getD_append_right _ _ _ _ (Nat.le_add_right ..), Nat.add_sub_cancel_left]

/-- `f` rewrites one character of a word at a time: it keeps the length, its step inside the word is at least 1, and it does not
depend on what stands before the character. -/
structure RewritesCharacters (f : List Byte → Nat → List Byte × Nat) : Prop where
  length : ∀ w i, (f w i).1.length = w.length
  step : ∀ w i, i < w.length → 1 ≤ (f w i).2
  append : ∀ c w i, f (c ++ w) (c.length + i) = (c ++ (f w i).1, (f w i).2)

theorem toUpper_rewritesCharacters : RewritesCharacters toUpper where
  length := toUpper_length
  step w i _ := by
    unfold toUpper
    split
    · exact le_rfl
    · split_ifs <;> exact Nat.succ_pos _
  append c w i := by
    have hi : (c ++ w)[c.length + i]? = w[i]? := by
      rw [List.getElem?_append_right (Nat.le_add_right ..), Nat.add_sub_cancel_left]
    unfold toUpper
    rw [hi]
    cases w[i]? with
    | none => rfl
    | some b =>
      simp only [Nat.add_assoc, modify_append_length_add]
      split_ifs <;> rfl

theorem shiftAt_rewritesCharacters (scalar : Nat) : RewritesCharacters (shiftAt scalar) where
  length := shiftAt_length scalar
  step w i hi := by
    have hleft : 1 ≤ w.length - i := Nat.sub_pos_of_lt hi
    rw [shiftAt]
    generalize w.length - i = r at hleft
    split_ifs
    exacts [le_rfl, le_rfl, le_rfl, Nat.succ_pos _, hleft, Nat.succ_pos _, hleft, Nat.succ_pos _, le_rfl]
  append c w i := by
    simp only [shiftAt, Nat.add_assoc, getD_append_length_add, set_append_length_add, List.length_append, Nat.add_sub_add_left]
    split_ifs <;> rfl

section
variable {f : List Byte → Nat → List Byte × Nat} {w c d : List Byte} {i n m : Nat}

theorem walkWord_of_lt (h : i < w.length) : walkWord f (n + 1) w i = walkWord f n (f w i).1 (i + (f w i).2) := if_pos h

theorem walkWord_of_le (h : w.length ≤ i) : walkWord f n w i = w := by
  cases n with
  | zero => rfl
  | succ n => exact if_neg (Nat.not_lt.mpr h)

/-- A word that the first character's rewriting leaves and steps over stays as it is. -/
theorem walkWord_stays (h : (f w 0).1 = w) (hstep : w.length ≤ (f w 0).2) : walkWord f n w 0 = w := by
  cases n with
  | zero => rfl
  | succ n =>
    by_cases hw : 0 < w.length
    · rw [walkWord_of_lt hw, h, Nat.zero_add]
      exact walkWord_of_le hstep
    · exact walkWord_of_le (Nat.le_of_not_lt hw)

variable (hf : RewritesCharacters f)
include hf

theorem RewritesCharacters.walkWord_append : walkWord f n (c ++ w) (c.length + i) = c ++ walkWord f n w i := by
  induction n generalizing w i with
  | zero => rfl
  | succ n ih =>
    by_cases hi : i < w.length
    · rw [walkWord_of_lt (by simpa using hi), walkWord_of_lt hi, hf.append, Nat.add_assoc, ih]
    · rw [walkWord_of_le (by simpa using hi), walkWord_of_le (Nat.le_of_not_lt hi)]

/-- Any bound on the number of characters does that is not below what is left of the word. -/
theorem RewritesCharacters.walkWord_bound (hn : w.length ≤ i + n) (hm : w.length ≤ i + m) :
    walkWord f n w i = walkWord f m w i := by
  induction n generalizing w i m with
  | zero => exact (walkWord_of_le hn).symm
  | succ n ih =>
    by_cases hi : i < w.length
    · have hstep (k : Nat) (hk : w.length ≤ i + (k + 1)) : (f w i).1.length ≤ i + (f w i).2 + k := by
        rw [hf.length, Nat.add_assoc]
        exact hk.trans (Nat.add_le_add_left (Nat.add_comm k 1 ▸ Nat.add_le_add_right (hf.step w i hi) k) i)
      cases m with
      | zero => exact absurd hi (Nat.not_lt.mpr hm)
      | succ m =>
        rw [walkWord_of_lt hi, walkWord_of_lt hi]
        exact ih (hstep n hn) (hstep m hm)
    · rw [walkWord_of_le (Nat.le_of_not_lt hi), walkWord_of_le (Nat.le_of_not_lt hi)]

/-- A walk rewrites the character in front, then walks over what follows. -/
theorem RewritesCharacters.walkWord_front (hd : d ≠ []) (h : f (c ++ w) 0 = (d ++ w, d.length)) :
    walkWord f (c ++ w).length (c ++ w) 0 = d ++ walkWord f w.length w 0 := by
  have hlength : (c ++ w).length = d.length + w.length := by
    rw [← hf.length (c ++ w) 0, h, List.length_append]
  obtain ⟨k, hk⟩ : ∃ k, d.length = k + 1 := Nat.exists_eq_succ_of_ne_zero (mt List.length_eq_zero_iff.mp hd)
  have hpos : 0 < (c ++ w).length := hlength ▸ Nat.add_pos_left (List.length_pos_iff.mpr hd) _
  calc walkWord f (c ++ w).length (c ++ w) 0
      = walkWord f (k + w.length + 1) (c ++ w) 0 := by rw [hlength, hk, Nat.add_right_comm]
    _ = walkWord f (k + w.length) (d ++ w) (d.length + 0) := by rw [walkWord_of_lt hpos, h, Nat.zero_add, Nat.add_zero]
    _ = d ++ walkWord f (k + w.length) w 0 := hf.walkWord_append
    _ = d ++ walkWord f w.length w 0 := by rw [hf.walkWord_bound (m := w.length) (by simp) (by simp)]

end

end Sys2Proof.Machine
end

section
/-! Obligation O59. Folding and shifting a character of each kind (44_dictionary_transforms.md R200 to R205). -/

namespace Sys2Proof.Machine

/-- A byte at or above a mark is at or above the smaller marks. -/
theorem not_lt_of_mark_le {b m m' : Byte} (h : m' ≤ m) (hb : m ≤ b) : ¬b < m' := BitVec.not_lt.mpr (BitVec.le_trans h hb)

/-! ### Folding -/

section
variable {w c d rest : List Byte} {i k : Nat} {b : Byte}

theorem toUpper_single (h : w[i]? = some b) (hb : b < 0xC0) :
    toUpper w i = (if 0x61 ≤ b ∧ b ≤ 0x7A then w.modify i (· ^^^ 0x20) else w, 1) := by
  rw [toUpper, h]
  exact if_pos hb

theorem toUpper_pair (h : w[i]? = some b) (hb : 0xC0 ≤ b) (hb' : b < 0xE0) :
    toUpper w i = (w.modify (i + 1) (· ^^^ 0x20), 2) := by
  rw [toUpper, h]
  exact (if_neg (BitVec.not_lt.mpr hb)).trans (if_pos hb')

theorem toUpper_triple (h : w[i]? = some b) (hb : 0xE0 ≤ b) : toUpper w i = (w.modify (i + 2) (· ^^^ 0x05), 3) := by
  rw [toUpper, h]
  exact (if_neg (not_lt_of_mark_le (by decide) hb)).trans (if_neg (BitVec.not_lt.mpr hb))

theorem upper_front (hd : d ≠ []) (h : toUpper (c ++ rest) 0 = (d ++ rest, d.length)) :
    upperFirst (c ++ rest) = d ++ rest ∧ upperAll (c ++ rest) = d ++ upperAll rest :=
  ⟨congrArg Prod.fst h, toUpper_rewritesCharacters.walkWord_front hd h⟩

theorem upper_stays (h : toUpper w 0 = (w, k)) (hk : w.length ≤ k) : upperFirst w = w ∧ upperAll w = w :=
  ⟨congrArg Prod.fst h, walkWord_stays (by rw [h]) (by rw [h]; exact hk)⟩

end

/-! ### Shifting -/

/-- The number of bytes of a character by its first byte, below 0xF8 (44_dictionary_transforms.md R204). -/
def characterWidth (b : Byte) : Nat := if b < 0xC0 then 1 else if b < 0xE0 then 2 else if b < 0xF0 then 3 else 4

/-- The bits above a field, and the field. -/
theorem or_shiftLeft {k m x : Nat} (hm : m = 2 ^ k) (h : x < m) (y : Nat) : x ||| (y <<< k) = y * m + x := by
  subst hm
  rw [Nat.or_comm, ← Nat.shiftLeft_add_eq_or_of_lt h, Nat.shiftLeft_eq]

/-- A mark, a multiple of `2 ^ k`, and the `k` low bits of a number. -/
theorem mark_or {mark : Byte} {k a : Nat} (h : mark = BitVec.ofNat 8 (2 ^ k * a)) (x : Nat) :
    mark ||| BitVec.ofNat 8 (x &&& (2 ^ k - 1)) = BitVec.ofNat 8 (2 ^ k * a + x % 2 ^ k) := by
  rw [h, Nat.and_two_pow_sub_one_eq_mod, ← BitVec.ofNat_or, Nat.two_pow_add_eq_or_of_lt (Nat.mod_lt _ (Nat.two_pow_pos k))]

theorem and_topBits : ∀ b : Byte, b &&& 0xC0 = BitVec.ofNat 8 (2 ^ 6 * (b.toNat / 64)) := by decide

theorem continuation_eq (b : Byte) (v : Nat) : continuation b v = BitVec.ofNat 8 (b.toNat / 64 * 64 + v % 64) := by
  rw [Nat.mul_comm]
  exact mark_or (and_topBits b) v

theorem and_low6 (x : Nat) : x &&& 0x3F = x % 64 := Nat.and_two_pow_sub_one_eq_mod x 6

/-- The codepoint of two bytes: `x` from the lead byte, six bits of the other. -/
theorem codepoint_pair (x c : Nat) : (c &&& 0x3F) ||| (x <<< 6) = x * 64 + c % 64 := by
  rw [and_low6, or_shiftLeft (k := 6) (m := 64) rfl (Nat.mod_lt c (by decide))]

/-- Six bits above a field. -/
theorem six_bits_lt {m x : Nat} (h : x < m) (c : Nat) : c % 64 * m + x < 64 * m :=
  calc c % 64 * m + x < c % 64 * m + m := Nat.add_lt_add_left h _
    _ = (c % 64 + 1) * m := (Nat.succ_mul ..).symm
    _ ≤ 64 * m := Nat.mul_le_mul_right m (Nat.mod_lt c (by decide))

theorem codepoint_triple (x c d : Nat) :
    (d &&& 0x3F) ||| ((c &&& 0x3F) <<< 6) ||| (x <<< 12) = x * 4096 + c % 64 * 64 + d % 64 := by
  have hlow : c % 64 * 64 + d % 64 < 4096 := six_bits_lt (Nat.mod_lt d (by decide)) c
  rw [codepoint_pair, and_low6, or_shiftLeft (k := 12) (m := 4096) rfl hlow, Nat.add_assoc]

theorem codepoint_quadruple (x c d e : Nat) :
    (e &&& 0x3F) ||| ((d &&& 0x3F) <<< 6) ||| ((c &&& 0x3F) <<< 12) ||| (x <<< 18) =
      x * 262144 + c % 64 * 4096 + d % 64 * 64 + e % 64 := by
  have htail : d % 64 * 64 + e % 64 < 4096 := six_bits_lt (Nat.mod_lt e (by decide)) d
  have hlow : c % 64 * 4096 + d % 64 * 64 + e % 64 < 262144 := (Nat.add_assoc ..).trans_lt (six_bits_lt htail c)
  rw [codepoint_triple, and_low6, or_shiftLeft (k := 18) (m := 262144) rfl hlow]
  simp only [Nat.add_assoc]

/-- The shift scalar of a parameter whose top bit is clear, and of one whose top bit, the sign, is set
(44_dictionary_transforms.md R203). -/
theorem shiftScalar_of_lt {param : BitVec 16} (h : param.toNat < 0x8000) : shiftScalar param = 0x1000000 + param.toNat := by
  have hlow : param.toNat &&& 0x7FFF = param.toNat := Nat.and_two_pow_sub_one_of_lt_two_pow (n := 15) h
  have hhigh : param.toNat &&& 0x8000 = 0 := (Nat.and_two_pow _ 15).trans (by rw [Nat.testBit_lt_two_pow h]; rfl)
  rw [shiftScalar, hlow, hhigh, Nat.sub_zero, Nat.add_comm]

theorem shiftScalar_of_le {param : BitVec 16} (h : 0x8000 ≤ param.toNat) :
    shiftScalar param = 0xFF8000 + (param.toNat - 0x8000) := by
  have hlt : param.toNat - 0x8000 < 0x8000 := Nat.sub_lt_left_of_lt_add h param.isLt
  have hlow : param.toNat &&& 0x7FFF = param.toNat - 0x8000 :=
    (Nat.and_two_pow_sub_one_eq_mod _ 15).trans ((Nat.mod_eq_sub_mod h).trans (Nat.mod_eq_of_lt hlt))
  have hhigh : param.toNat &&& 0x8000 = 0x8000 :=
    (Nat.and_two_pow _ 15).trans (by rw [Nat.testBit_of_two_pow_le_and_two_pow_add_one_gt h param.isLt]; rfl)
  rw [shiftScalar, hlow, hhigh, Nat.add_comm]

theorem two_le_characterWidth {b : Byte} (hb : 0xC0 ≤ b) : 2 ≤ characterWidth b := by
  rw [characterWidth, if_neg (BitVec.not_lt.mpr hb)]
  split_ifs <;> decide

theorem three_le_characterWidth {b : Byte} (hb : 0xE0 ≤ b) : 3 ≤ characterWidth b := by
  rw [characterWidth, if_neg (not_lt_of_mark_le (by decide) hb), if_neg (BitVec.not_lt.mpr hb)]
  split_ifs <;> decide

theorem four_le_characterWidth {b : Byte} (hb : 0xF0 ≤ b) : 4 ≤ characterWidth b := by
  rw [characterWidth, if_neg (not_lt_of_mark_le (by decide) hb), if_neg (not_lt_of_mark_le (by decide) hb),
    if_neg (BitVec.not_lt.mpr hb)]

section
variable {w c d rest : List Byte} {i scalar : Nat} {b : Byte}

theorem shiftAt_cut (h : w[i]? = some b) (hb : 0xC0 ≤ b) (hb' : b < 0xF8) (hcut : w.length < i + characterWidth b) :
    shiftAt scalar w i = (w, w.length - i) := by
  obtain rfl : w.getD (i + 0) 0 = b := by simp [h]
  have hi : i < w.length := (List.getElem?_eq_some_iff.mp h).1
  have hleft (n : Nat) (hn : w.length < i + n) : w.length - i < n := Nat.sub_lt_left_of_lt_add hi.le hn
  rw [characterWidth, if_neg (BitVec.not_lt.mpr hb)] at hcut
  refine (if_neg (not_lt_of_mark_le (by decide) hb)).trans ((if_neg (BitVec.not_lt.mpr hb)).trans ?_)
  by_cases hpair : w.getD (i + 0) 0 < 0xE0
  · rw [if_pos hpair] at hcut
    have hone : w.length - i = 1 := Nat.le_antisymm (Nat.le_of_lt_succ (hleft 2 hcut)) (Nat.sub_pos_of_lt hi)
    exact (if_pos hpair).trans ((if_pos (hleft 2 hcut)).trans (by rw [hone]))
  rw [if_neg hpair] at hcut
  refine (if_neg hpair).trans ?_
  by_cases htriple : w.getD (i + 0) 0 < 0xF0
  · rw [if_pos htriple] at hcut
    exact (if_pos htriple).trans (if_pos (hleft 3 hcut))
  · rw [if_neg htriple] at hcut
    exact (if_neg htriple).trans ((if_pos hb').trans (if_pos (hleft 4 hcut)))

theorem shiftAt_single (hb : b < 0x80) :
    shiftAt scalar (b :: rest) 0 = (BitVec.ofNat 8 ((scalar + b.toNat) % 128) :: rest, 1) := by
  rw [show (scalar + b.toNat) % 128 = (scalar + b.toNat) &&& 0x7F from (Nat.and_two_pow_sub_one_eq_mod _ 7).symm]
  exact if_pos hb

theorem shiftAt_stray (hb : 0x80 ≤ b) (hb' : b < 0xC0 ∨ 0xF8 ≤ b) : shiftAt scalar (b :: rest) 0 = (b :: rest, 1) := by
  refine (if_neg (BitVec.not_lt.mpr hb)).trans ?_
  obtain hlow | hhigh := hb'
  · exact if_pos hlow
  · exact (if_neg (not_lt_of_mark_le (by decide) hhigh)).trans ((if_neg (not_lt_of_mark_le (by decide) hhigh)).trans
      ((if_neg (not_lt_of_mark_le (by decide) hhigh)).trans (if_neg (BitVec.not_lt.mpr hhigh))))

theorem shiftAt_pair (hb : 0xC0 ≤ b) (hb' : b < 0xE0) (c : Byte) :
    let v := scalar + (b.toNat % 32 * 64 + c.toNat % 64)
    shiftAt scalar (b :: c :: rest) 0 =
      (BitVec.ofNat 8 (0xC0 + v / 64 % 32) :: BitVec.ofNat 8 (c.toNat / 64 * 64 + v % 64) :: rest, 2) := by
  intro v
  have hv : scalar + ((c.toNat &&& 0x3F) ||| ((b.toNat &&& 0x1F) <<< 6)) = v := by
    rw [codepoint_pair, show b.toNat &&& 0x1F = b.toNat % 32 from Nat.and_two_pow_sub_one_eq_mod _ 5]
  have hlead : 0xC0 ||| BitVec.ofNat 8 ((v >>> 6) &&& 0x1F) = BitVec.ofNat 8 (0xC0 + v / 64 % 32) := by
    rw [Nat.shiftRight_eq_div_pow]
    exact mark_or (k := 5) (a := 6) rfl _
  rw [← hlead, ← continuation_eq, ← hv]
  exact (if_neg (not_lt_of_mark_le (by decide) hb)).trans ((if_neg (BitVec.not_lt.mpr hb)).trans ((if_pos hb').trans
    (if_neg (by simp))))

theorem shiftAt_triple (hb : 0xE0 ≤ b) (hb' : b < 0xF0) (c d : Byte) :
    let v := scalar + (b.toNat % 16 * 4096 + c.toNat % 64 * 64 + d.toNat % 64)
    shiftAt scalar (b :: c :: d :: rest) 0 = (BitVec.ofNat 8 (0xE0 + v / 4096 % 16) ::
      BitVec.ofNat 8 (c.toNat / 64 * 64 + v / 64 % 64) :: BitVec.ofNat 8 (d.toNat / 64 * 64 + v % 64) :: rest, 3) := by
  intro v
  have hv : scalar + ((d.toNat &&& 0x3F) ||| ((c.toNat &&& 0x3F) <<< 6) ||| ((b.toNat &&& 0x0F) <<< 12)) = v := by
    rw [codepoint_triple, show b.toNat &&& 0x0F = b.toNat % 16 from Nat.and_two_pow_sub_one_eq_mod _ 4]
  have hlead : 0xE0 ||| BitVec.ofNat 8 ((v / 4096) &&& 0x0F) = BitVec.ofNat 8 (0xE0 + v / 4096 % 16) :=
    mark_or (k := 4) (a := 14) rfl _
  rw [← hlead, ← continuation_eq, ← continuation_eq, show v / 4096 = v >>> 12 from (Nat.shiftRight_eq_div_pow v 12).symm,
    show v / 64 = v >>> 6 from (Nat.shiftRight_eq_div_pow v 6).symm, ← hv]
  exact (if_neg (not_lt_of_mark_le (by decide) hb)).trans ((if_neg (not_lt_of_mark_le (by decide) hb)).trans
    ((if_neg (BitVec.not_lt.mpr hb)).trans ((if_pos hb').trans (if_neg (by simp)))))

theorem shiftAt_quadruple (hb : 0xF0 ≤ b) (hb' : b < 0xF8) (c d e : Byte) :
    let v := scalar + (b.toNat % 8 * 262144 + c.toNat % 64 * 4096 + d.toNat % 64 * 64 + e.toNat % 64)
    shiftAt scalar (b :: c :: d :: e :: rest) 0 = (BitVec.ofNat 8 (0xF0 + v / 262144 % 8) ::
      BitVec.ofNat 8 (c.toNat / 64 * 64 + v / 4096 % 64) :: BitVec.ofNat 8 (d.toNat / 64 * 64 + v / 64 % 64) ::
      BitVec.ofNat 8 (e.toNat / 64 * 64 + v % 64) :: rest, 4) := by
  intro v
  have hv : scalar + ((e.toNat &&& 0x3F) ||| ((d.toNat &&& 0x3F) <<< 6) ||| ((c.toNat &&& 0x3F) <<< 12) |||
      ((b.toNat &&& 0x07) <<< 18)) = v := by
    rw [codepoint_quadruple, show b.toNat &&& 0x07 = b.toNat % 8 from Nat.and_two_pow_sub_one_eq_mod _ 3]
  have hlead : 0xF0 ||| BitVec.ofNat 8 ((v / 262144) &&& 0x07) = BitVec.ofNat 8 (0xF0 + v / 262144 % 8) :=
    mark_or (k := 3) (a := 30) rfl _
  rw [← hlead, ← continuation_eq, ← continuation_eq, ← continuation_eq,
    show v / 262144 = v >>> 18 from (Nat.shiftRight_eq_div_pow v 18).symm,
    show v / 4096 = v >>> 12 from (Nat.shiftRight_eq_div_pow v 12).symm,
    show v / 64 = v >>> 6 from (Nat.shiftRight_eq_div_pow v 6).symm, ← hv]
  exact (if_neg (not_lt_of_mark_le (by decide) hb)).trans ((if_neg (not_lt_of_mark_le (by decide) hb)).trans
    ((if_neg (not_lt_of_mark_le (by decide) hb)).trans ((if_neg (BitVec.not_lt.mpr hb)).trans ((if_pos hb').trans
    (if_neg (by simp))))))

theorem shiftFirst_eq (w : List Byte) (param : BitVec 16) : shiftFirst w param = (shiftAt (shiftScalar param) w 0).1 := by
  cases w <;> rfl

theorem shift_front {param : BitVec 16} (hd : d ≠ []) (h : shiftAt (shiftScalar param) (c ++ rest) 0 = (d ++ rest, d.length)) :
    shiftFirst (c ++ rest) param = d ++ rest ∧ shiftAll (c ++ rest) param = d ++ shiftAll rest param :=
  ⟨by rw [shiftFirst_eq, h], (shiftAt_rewritesCharacters _).walkWord_front hd h⟩

/-- A word that is a character cut off stays as it is. -/
theorem shift_stays {param : BitVec 16} (hfirst : w[0]? = some b) (hb : 0xC0 ≤ b) (hb' : b < 0xF8)
    (hcut : w.length < characterWidth b) : shiftFirst w param = w ∧ shiftAll w param = w := by
  have h : shiftAt (shiftScalar param) w 0 = (w, w.length) := shiftAt_cut hfirst hb hb' (by rwa [Nat.zero_add])
  exact ⟨by rw [shiftFirst_eq, h], walkWord_stays (by rw [h]) (by rw [h])⟩

end

/-- Settles O59: the rewriting of the character in front has an equation for each kind of character, and a walk is that rewriting
and the walk over what follows; where the character is cut off, the walk ends. -/
theorem foldingKeepsTheLength : Obligations.FoldingKeepsTheLength := by
  refine ⟨fun w => ⟨toUpper_length w 0, walkWord_length toUpper_length .., fun param => ⟨shiftFirst_length w param,
    walkWord_length (shiftAt_length _) ..⟩⟩, fun w i b h => ⟨fun hb hb' hcut => ?_, fun hb hcut => ?_⟩,
    fun w i b scalar h => ⟨fun hb hb' hcut => ?_, fun hb hb' hcut => ?_, fun hb hb' hcut => ?_⟩, ?_, fun param => ?_,
    fun param => ?_⟩
  · rw [toUpper_pair h hb hb']
    exact List.modify_eq_self hcut
  · rw [toUpper_triple h hb]
    exact List.modify_eq_self hcut
  · rw [shiftAt_cut h hb (BitVec.lt_trans hb' (by decide)) (hcut.trans_lt (Nat.add_lt_add_left (two_le_characterWidth hb) i))]
  · rw [shiftAt_cut h (BitVec.le_trans (by decide) hb) (BitVec.lt_trans hb' (by decide))
      (hcut.trans_lt (Nat.add_lt_add_left (three_le_characterWidth hb) i))]
  · rw [shiftAt_cut h (BitVec.le_trans (by decide) hb) hb' (hcut.trans_lt (Nat.add_lt_add_left (four_le_characterWidth hb) i))]
  · intro folds stays
    refine ⟨fun b hb rest => upper_front (by simp) ?_, fun b c hb hb' rest => upper_front (by simp) (toUpper_pair rfl hb hb'),
      fun b c d hb rest => upper_front (by simp) (toUpper_triple rfl hb), ⟨rfl, rfl⟩, fun b hb => ?_, fun b c hb => ?_⟩
    · rw [toUpper_single rfl hb]
      split_ifs <;> rfl
    · by_cases hpair : b < 0xE0
      · exact upper_stays (toUpper_pair rfl hb hpair) (by simp)
      · exact upper_stays (toUpper_triple rfl (BitVec.not_lt.mp hpair)) (by simp)
    · exact upper_stays (toUpper_triple rfl hb) (by simp)
  · exact ⟨shiftScalar_of_lt, shiftScalar_of_le⟩
  · intro scalar byte low top shifts stays
    refine ⟨fun b hb rest => shift_front (by simp) (shiftAt_single hb),
      fun b hb hb' rest => shift_front (by simp) (shiftAt_stray hb hb'),
      fun b c hb hb' rest => shift_front (by simp) (shiftAt_pair hb hb' c),
      fun b c d hb hb' rest => shift_front (by simp) (shiftAt_triple hb hb' c d),
      fun b c d e hb hb' rest => shift_front (by simp) (shiftAt_quadruple hb hb' c d e),
      ⟨rfl, rfl⟩, fun b hb hb' => ?_, fun b c hb hb' => ?_, fun b c d hb hb' => ?_⟩
    · exact shift_stays rfl hb hb' (two_le_characterWidth hb)
    · exact shift_stays rfl (BitVec.le_trans (by decide) hb) hb' (three_le_characterWidth hb)
    · exact shift_stays rfl (BitVec.le_trans (by decide) hb) hb' (four_le_characterWidth hb)

end Sys2Proof.Machine
end
